-- ==== Sys2Proof/Word.lean ====
section
/-! DEFINITION. The words of the NZ840: the unsigned fields of its records (spec/10, R181) and the numbers that name
its streams, banks, ports and slots. -/

namespace Sys2Proof

/-- One byte of exchange memory; a u8 field. -/
abbrev Byte := BitVec 8
/-- A u16 field. -/
abbrev Half := BitVec 16
/-- A u32 field, a register window word, a 32-bit counter. -/
abbrev Word := BitVec 32
/-- A u64 field: a seq or a timebase value. -/
abbrev Dword := BitVec 64

/-- Streams, and the capture ports that belong with them, are numbered 0 to 7 (spec/00 section 4.1). -/
abbrev StreamId := Fin 8
/-- Bank positions of one stream are indexed 0 to 7 (R2). -/
abbrev BankIx := Fin 8
/-- Output ports OP0 to OP3. -/
abbrev PortId := Fin 4
/-- Request slots are numbered 0 to slot_count − 1, at most 31 (R118). -/
abbrev SlotId := Fin 32

end Sys2Proof
end

