-- ==== Sys2Proof/Syntax.lean ====
section
/-! DEFINITION. The commands of the NZ840: one constructor of `Instr` per row of spec/opcode_table.json. The table gives
its rows no bits and no fields; the operands here are what the row's event carries from outside (log 14). -/

namespace Sys2Proof

/-- A host access through the exchange window (R178): a range to read, or bytes to write from an address on. -/
inductive WindowAccess where
  | read (addr len : Nat)
  | write (addr : Nat) (bytes : List Byte)
  deriving DecidableEq, Repr

/-- A frame start of a stream: its marker is decoded now, or it has waited at the capture port behind a frame end and is
presented now (R23, log 8). -/
structure FrameStart where
  stream : StreamId
  waited : Bool
  deriving DecidableEq, Repr

/-- A frame end to present: its stream, and whether the placement of a frame selected for publication is still on its way
when the step ends (R14, R52, log 9). -/
structure FrameEnd where
  stream : StreamId
  late : Bool
  deriving DecidableEq, Repr

/-- The steps of the part, each whole and indivisible (spec/95). -/
inductive Instr where
  -- resets
  | powerOnReset
  | funcReset (w : Word)
  | pcieLinkReset
  | dramInitComplete
  -- register window
  | run (w : Word)
  | dirbaseWrite (w : Word)
  | nudge (w : Word)
  | noticePendingWrite (w : Word)
  | noticeEnableWrite (w : Word)
  | timeLoRead (offset : Nat := 0x1C) (size : Nat := 4)
  | registerWriteIgnored (offset size : Nat) (v : Dword)
  | vectorUnmask
  -- exchange window and memory arbiter
  | exchangeWindowAccess (a : WindowAccess)
  | windowReadComplete
  | nudgeTriggerRelease
  | directoryReadIssue
  | burstGrant
  -- capture links and streams
  | frameStart (f : FrameStart)
  | lineStart (s : StreamId) (pixels : List Byte)
  | lineEnd (s : StreamId)
  | frameEndMarker (s : StreamId)
  | frameEnd (e : FrameEnd)
  | lossTimerExpiry (s : StreamId)
  -- sweeps
  | sweepTimerExpiry
  | returnTicketReadComplete
  | boardReadComplete
  -- requests taken from the board copy
  | badKind
  | nop
  | adoptStream
  | streamRecordReadComplete (s : StreamId)
  | adoptionTakesEffect (s : StreamId)
  | stopStream
  | holdStream
  | resumeStream
  | queryStream
  | grab
  | startPort
  | splice
  | stopPort
  | queryPort
  -- completions of record writes
  | answerWriteComplete
  | catalogWriteComplete
  | streamStatusWriteComplete (s : StreamId)
  | portStatusWriteComplete (p : PortId)
  -- holds
  | holdExpiry (s : StreamId) (i : BankIx)
  -- output ports and cue walkers
  | outputFrameStart (p : PortId)
  | scanReadComplete (p : PortId)
  | lineUnderrun (p : PortId)
  | outputLineEnd (p : PortId)
  | fetchCompletion (p : PortId)
  | headFetchCompletion (p : PortId)
  | discardedReadCompletion (p : PortId)
  -- run control
  | directoryReadComplete
  | statusInitComplete
  | haltReclaim
  | haltComplete
  | countRecordWriteComplete
  -- endpoint configuration
  | vectorMask
  | msiCapabilityChange (enabled : Bool)
  deriving DecidableEq, Repr

end Sys2Proof
end

