-- ==== Sys2Proof/Config.lean ====
section
/-! DEFINITION. What is fixed for the part: sizes, identification and the code values that checks name. No rule of the
spec leaves a RESULT undefined, so there is no free value here; the one open value, an unwritten byte of exchange
memory, is `Config.unwrittenByte` (log 4). -/

namespace Sys2Proof.Config

/-- Exchange memory is 1 GiB, addresses 0x00000000 to 0x3FFFFFFF (spec/07 section 7.1). -/
def memorySize : Nat := 0x40000000

/-- DESIGN CHOICE (log 4, unsafe): the content of exchange memory after power-on is not guaranteed (R157); a byte that
nothing has written since power-on reads as 0. -/
def unwrittenByte : Byte := 0

/-- A burst is 1 to 256 bytes (R169). -/
def burstBytes : Nat := 256

/-- IDENT: vendor 0x6A1, part 0x0840, revision 1 (R151, R187). -/
def ident : Word := 0x6A108401

/-- dir_mark of a directory (R138). -/
def dirMark : Nat := 0x6E7A3430

/-- cue_mark of a cue record (R73). -/
def cueMark : Nat := 0xC7

/-- END as a link, and "none" as an address in a port status record (R181). -/
def endLink : Nat := 0xFFFFFFFF

end Sys2Proof.Config
end

