-- ==== Sys2Proof/Machine/Types.lean ====
section
/-! DEFINITION. The named values and records that State is made of, under the manual's names. -/

namespace Sys2Proof.Machine

/-! ## Run control -/

/-- Device states (R141). -/
inductive DeviceState where
  | halted | loading | running | stopping | faulted
  deriving DecidableEq, Repr

/-- Fault causes of a directory load (R139, R151). -/
inductive FaultCause where
  | none | badMark | badVersion | badRegion | regionOverlap | badSlotCount | badPeriod
  deriving DecidableEq, Repr

/-- Where a directory load stands (R142 to R144, R179): no load; the read is due but held by the endpoint; the read is
issued; the thirteen status area writes are issued. -/
inductive LoadPhase where
  | none | toIssue | reading | initialising
  deriving DecidableEq, Repr

/-- The copied directory (R138) with the DIRBASE value it was read from. -/
structure Directory where
  dirbase : Word
  streamTableAddr : Word
  boardAddr : Word
  slotCount : Word
  catalogAddr : Word
  statusAddr : Word
  sweepPeriod : Word
  deriving DecidableEq, Repr

/-- Run control's state (R141, R151 to R153). -/
structure RunControl where
  device : DeviceState
  faultCause : FaultCause
  run : Bool
  dirbase : Word
  dirCopy : Option Directory
  load : LoadPhase
  deriving DecidableEq, Repr

/-- The timebase and the latch that TIME_HI shows (R155). -/
structure Timebase where
  count : Dword
  latch : Word
  deriving DecidableEq, Repr

/-- What the PCIe endpoint holds: the message capability and the vector mask (R164), the NUDGE triggers it holds back,
each with the number of earlier WINDOW bursts not yet granted, and the number of WINDOW bursts received before the
CONTROL write that last raised run and not yet granted (R179). -/
structure Endpoint where
  msiEnabled : Bool
  vectorMasked : Bool
  heldNudges : List Nat
  windowAhead : Nat
  deriving DecidableEq, Repr

/-! ## Notices -/

/-- The six notice kinds (R159), in the order of their bits (R187). -/
inductive NoticeKind where
  | answered | published | reclaimed | stream | port | device
  deriving DecidableEq, Repr

/-- The state of the notice count record's write (R165). -/
inductive Mirror where
  | none | waiting | issued | issuedAgain
  deriving DecidableEq, Repr

/-- The notice unit (R158). The sets are held as the six bits NOTICE_PENDING and NOTICE_ENABLE show (R187). -/
structure NoticeUnit where
  pending : BitVec 6
  enable : BitVec 6
  counts : Vector Word 6
  owed : Bool
  mirror : Mirror
  deriving DecidableEq, Repr

/-! ## Requests -/

/-- Refusal codes (section 6.6, R183). -/
inductive RefusalCode where
  | badKind | badTarget | badState | badField | range | overlap | holdsRemain | noFrame | quota | badCue | superseded
  | aborted
  deriving DecidableEq, Repr

/-- The request kinds that the kind field names (R183). -/
inductive RequestKind where
  | nop | adoptStream | stopStream | holdStream | resumeStream | queryStream | grab | startPort | splice | stopPort
  | queryPort
  deriving DecidableEq, Repr

/-- The host-written fields of a slot but for its state (R117, R183). -/
structure Request where
  kind : Half
  target : Byte
  flags : Byte
  tag : Half
  args : Vector Word 6
  deriving DecidableEq, Repr

/-- The block that decides a request (R126). -/
inductive Owner where
  | requestUnit
  | streamController (s : StreamId)
  | publicationUnit
  | outputPort (p : PortId)
  deriving DecidableEq, Repr

/-- The phase of an in-flight entry (R119). -/
inductive EntryPhase where
  | waiting | answering
  deriving DecidableEq, Repr

/-- An entry of the in-flight set; its slot is its place in the set (R119). -/
structure InFlight where
  request : Request
  owner : Owner
  phase : EntryPhase
  deriving DecidableEq, Repr

/-- An owner's answer: DONE with its result words, or REFUSED with a code (R126). -/
inductive Answer where
  | done (results : List Word)
  | refused (code : RefusalCode)
  deriving DecidableEq, Repr

/-- One slot of the board copy: the state word and the request as read, and whether the slot was in flight at the
grant of its read (R123). -/
structure BoardSlot where
  state : Word
  request : Request
  inFlight : Bool
  deriving DecidableEq, Repr

/-- Sweep states (R119). -/
inductive SweepState where
  | idle | returns | board | taking
  deriving DecidableEq, Repr

/-- The request unit (R119). `grabWait` is the slot of a GRAB whose answer waits for its catalog record write and so
holds phase TAKING (R127). -/
structure RequestUnit where
  sweepTimer : Option Dword
  sweep : SweepState
  sweepPending : Bool
  nextSlot : Nat
  board : List BoardSlot
  inFlight : Vector (Option InFlight) 32
  halting : Bool
  grabWait : Option SlotId
  deriving DecidableEq, Repr

/-! ## Bank exchange -/

/-- Frame formats: YC16 has 2 bytes a pixel, Y8 one (R1, R27). -/
inductive Format where
  | yc16 | y8
  deriving DecidableEq, Repr

/-- The copied geometry of a stream's bank set (R1). -/
structure Geometry where
  bankBase : Word
  bankCount : Byte
  width : Half
  height : Half
  pitch : Half
  format : Format
  deriving DecidableEq, Repr

/-- Bank states (R2, R3). -/
inductive BankState where
  | empty | filling | valid
  deriving DecidableEq, Repr

/-- frame_flags (R2, R24). -/
structure FrameFlags where
  truncated : Bool
  narrow : Bool
  deriving DecidableEq, Repr

/-- Why a hold was placed (R5). -/
inductive HoldReason where
  | published | grabbed
  deriving DecidableEq, Repr

/-- A host hold (R5). -/
structure Hold where
  ticket : Half
  deadline : Option Dword
  reason : HoldReason
  deriving DecidableEq, Repr

/-- The state a catalog record shows (R2). -/
inductive CatalogState where
  | idle | held | reclaimed
  deriving DecidableEq, Repr

/-- One bank record (R2). The claim set is computed from the claim table (R4). -/
structure Bank where
  state : BankState
  seq : Dword
  captureTime : Dword
  lines : Half
  flags : FrameFlags
  hold : Option Hold
  catalog : CatalogState
  lastTicket : Half
  deriving DecidableEq, Repr

/-- The bank exchange: 64 bank records, the claim table and the copied geometries (R1, R2, R4). -/
structure BankExchange where
  banks : Vector (Vector Bank 8) 8
  claims : Vector (Option (StreamId × BankIx)) 4
  geometry : Vector (Option Geometry) 8
  deriving DecidableEq, Repr

/-- The values of a claim answer that gives a frame (R11), which the port keeps as its claimed bank (R91). -/
structure ClaimedBank where
  stream : StreamId
  bank : BankIx
  addr : Word
  seq : Dword
  captureTime : Dword
  lines : Half
  flags : FrameFlags
  width : Half
  height : Half
  pitch : Half
  format : Format
  deriving DecidableEq, Repr

/-- The three answers to a claim request (R11). -/
inductive ClaimAnswer where
  | noFrame
  | repeated
  | fresh (c : ClaimedBank)
  deriving DecidableEq, Repr

/-! ## Publication unit -/

/-- reclaim_cause of a catalog record (R55). -/
inductive ReclaimCause where
  | none | expiry | halt
  deriving DecidableEq, Repr

/-- The catalog image of a position (R50). -/
structure CatalogImage where
  reason : Option HoldReason
  seq : Dword
  captureTime : Dword
  lines : Half
  flags : FrameFlags
  reclaimCause : ReclaimCause
  deriving DecidableEq, Repr

/-- The publish state of a stream (R50), with the bank of a completed frame whose placement has been asked for and has
not reached the bank exchange yet, if there is one (R14, R52, log 9). -/
structure PublishState where
  nth : Nat
  holds : Nat
  offer : Option BankIx
  deriving DecidableEq, Repr

/-- The publication unit (R50). -/
structure PublicationUnit where
  streams : Vector PublishState 8
  images : Vector (Vector CatalogImage 8) 8
  deriving DecidableEq, Repr

/-- What an adoption's answer will carry: its slot, the bank stride and the footprint (R43). -/
structure AdoptionAnswer where
  slot : SlotId
  stride : Word
  footprint : Word
  deriving DecidableEq, Repr

/-- The event a catalog record write stands for (R56); its completion brings the further effects of that event (R57).
The last record of an adoption carries the adoption's answer (R68); a GRAB carries its slot and result words (R59). -/
inductive CatalogEvent where
  | adoption (answer : Option AdoptionAnswer)
  | published
  | grabbed (slot : SlotId) (results : List Word)
  | returned
  | expired
  | haltReclaimed
  | lateReturn
  deriving DecidableEq, Repr

/-! ## Streams and capture ports -/

/-- Stream states (R30). -/
inductive StreamState where
  | off | seeking | live | lost | draining
  deriving DecidableEq, Repr

/-- Freeze modes (R30, R38). -/
inductive FreezeMode where
  | none | pending | active
  deriving DecidableEq, Repr

/-- Publish policies (R27, R51). -/
inductive PublishPolicy where
  | none | every | nth
  deriving DecidableEq, Repr

/-- What ports show while the stream is LOST (R27). -/
inductive OnLoss where
  | fill | last
  deriving DecidableEq, Repr

/-- The configuration copied from a stream record at adoption (R27). -/
structure StreamConfig where
  bankBase : Word
  bankCount : Byte
  width : Half
  height : Half
  pitch : Half
  format : Format
  captureDivisor : Byte
  publishPolicy : PublishPolicy
  publishN : Byte
  holdLimit : Byte
  holdTime : Half
  lossTimeout : Half
  onLoss : OnLoss
  deriving DecidableEq, Repr

/-- Causes of a broken frame, and NONE (R34, R41). -/
inductive BreakCause where
  | none | interrupted | overrun | short | lost | drainCut
  deriving DecidableEq, Repr

/-- The ten stream counters (R39). -/
structure StreamCounters where
  arrived : Word
  written : Word
  decimated : Word
  frozen : Word
  dropped : Word
  broken : Word
  published : Word
  publishMissed : Word
  reclaimed : Word
  lateReturns : Word
  deriving DecidableEq, Repr

/-- An adoption in progress: none, its stream record being read, or pending with the validated record (R42, R43). -/
inductive Adoption where
  | none
  | reading (slot : SlotId)
  | pending (slot : SlotId) (config : StreamConfig)
  deriving DecidableEq, Repr

/-- A stream controller (R27, R30, R39). `lineCount` and `lineFlags` are those of the FILLING frame (R24). -/
structure Stream where
  state : StreamState
  freeze : FreezeMode
  config : Option StreamConfig
  seq : Dword
  decimation : Nat
  counters : StreamCounters
  placements : Word
  lastBroken : BreakCause
  lossTimer : Option Dword
  adoption : Adoption
  waitingStop : Option SlotId
  waitingHold : Option SlotId
  lineCount : Half
  lineFlags : FrameFlags
  deriving DecidableEq, Repr

/-- A write of the stream status record that an event asks for (R41): the stream state, the freeze mode and the number of
host holds after that event (R57, R22), whether it reports a transition for which STREAM is raised (R159), and whether
the event is a hold event whose catalog record write has not completed (R57, log 37). -/
structure StatusReport where
  state : StreamState
  freeze : FreezeMode
  notice : Bool
  holds : Nat
  awaitsCatalog : Bool
  deriving DecidableEq, Repr

/-- An OCCUPIED line buffer entry (R175): the row of its line, the bytes received within width and not yet issued with
their offset in the row, and whether the line end has arrived. -/
structure BufferedLine where
  row : Nat
  rest : List Byte
  restOffset : Nat
  ended : Bool
  deriving DecidableEq, Repr

/-- The line being received: how many pixels of it have arrived, the entry it took, if any, and whether it is discarded
at the port (R23 to R25, R175). -/
structure OpenLine where
  pixels : Nat
  entry : Option (Fin 2)
  discarded : Bool
  deriving DecidableEq, Repr

/-- Link events that wait at a capture port (R23): a frame end for its lines, or a frame start, with its latched capture
time, for the frame end before it and then for its own presentation (log 8). -/
inductive LinkEvent where
  | frameEnd
  | frameStart (captureTime : Dword)
  deriving DecidableEq, Repr

/-- A capture port (R23 to R25, R175); an entry that is `none` is FREE. -/
structure CapturePort where
  buffer : Vector (Option BufferedLine) 2
  openLine : Option OpenLine
  waiting : List LinkEvent
  deriving DecidableEq, Repr

/-! ## Cue walkers and output ports -/

/-- A Y, Cb, Cr colour (R72). -/
structure Colour where
  y : Byte
  cb : Byte
  cr : Byte
  deriving DecidableEq, Repr

/-- The source of a cue (R72). -/
inductive CueSource where
  | stream (s : StreamId)
  | background
  deriving DecidableEq, Repr

/-- The fields of a valid cue (R72); a link of `none` is END. -/
structure Cue where
  source : CueSource
  skipIfLost : Bool
  notify : Bool
  fill : Colour
  dwell : Half
  tag : Half
  link : Option Word
  deriving DecidableEq, Repr

/-- Whether a fetch follows a link or reads a head (R74). -/
inductive Origin where
  | link | head
  deriving DecidableEq, Repr

/-- The next-cue buffer (R74); a cue of `none` is an invalid cue held as a fault (R84). -/
structure BufferedCue where
  addr : Word
  origin : Origin
  cue : Option Cue
  deriving DecidableEq, Repr

/-- Walker states; end noted is meaningful in IDLE, the next-cue buffer holds a cue in READY alone (R74). -/
inductive WalkerState where
  | idle (endNoted : Bool)
  | fetching
  | ready (b : BufferedCue)
  deriving DecidableEq, Repr

/-- A cue walker (R74). The fetch address and the fetch origin are meaningful in FETCHING and keep their values in the
other states. -/
structure Walker where
  state : WalkerState
  fetchAddr : Word
  fetchOrigin : Origin
  hops : Nat
  discardedRead : Bool
  deriving DecidableEq, Repr

/-- What the walker indicates to its port (R85). -/
inductive Indication where
  | cue (addr : Word) (c : Cue)
  | head (addr : Word) (c : Cue)
  | fault (addr : Word)
  | notYet
  | atEnd
  | nothing
  deriving DecidableEq, Repr

/-- Output port states (R91, R93). -/
inductive PortState where
  | off | starting | showing | parked | stalled | stopping
  deriving DecidableEq, Repr

/-- The size of every output frame (R91). -/
structure Raster where
  width : Half
  height : Half
  deriving DecidableEq, Repr

/-- The current cue: a copy of the cue's fields and its address (R91). -/
structure CurrentCue where
  addr : Word
  cue : Cue
  deriving DecidableEq, Repr

/-- Splice timings (R109). -/
inductive SpliceTiming where
  | cueEnd | nextFrame
  deriving DecidableEq, Repr

/-- A pending splice (R91). -/
structure PendingSplice where
  timing : SpliceTiming
  head : Word
  slot : SlotId
  deriving DecidableEq, Repr

/-- The request a port answers when it reaches a later state (R91). -/
inductive WaitingRequest where
  | startPort (slot : SlotId)
  | stopPort (slot : SlotId)
  deriving DecidableEq, Repr

/-- fault_cause of a port (R91). -/
inductive PortFault where
  | none | badCue
  deriving DecidableEq, Repr

/-- The eight port counters (R105). -/
structure PortCounters where
  shown : Word
  fresh : Word
  repeated : Word
  fill : Word
  cueChanges : Word
  lateCues : Word
  skippedCues : Word
  underrunLines : Word
  deriving DecidableEq, Repr

/-- An output line buffer entry (R177). -/
inductive OutputEntry where
  | free
  | reading (row : Nat) (data : List Byte)
  | ready (row : Nat) (data : List Byte)
  deriving DecidableEq, Repr

/-- What the frame on the output link shows (R93, R99, R101): no frame, black, a fill colour, or a claimed bank with
the fill colour around it. -/
inductive ShownFrame where
  | idle
  | black
  | fill (c : Colour)
  | bank (b : ClaimedBank) (c : Colour)
  deriving DecidableEq, Repr

/-- An output port (R91, R177). `linkLine` is the line the link is at, `nextRow` the next row to be read, `underran`
whether the line at the link has underrun (R103, R104). -/
structure Port where
  state : PortState
  raster : Option Raster
  framePeriod : Option Word
  frameTimer : Option Dword
  current : Option CurrentCue
  dwell : Half
  claimed : Option ClaimedBank
  shownSeq : Dword
  splice : Option PendingSplice
  waiting : Option WaitingRequest
  faultCause : PortFault
  faultAddr : Word
  counters : PortCounters
  frames : Word
  buffer : Vector OutputEntry 2
  shown : ShownFrame
  linkLine : Nat
  nextRow : Nat
  underran : Bool
  deriving DecidableEq, Repr

/-! ## Memory arbiter -/

/-- The clients of the arbiter by class and number (R170). -/
inductive ClientId where
  | scan (p : PortId)
  | capture (s : StreamId)
  | control (k : Fin 16)
  | window
  deriving DecidableEq, Repr

/-- What a burst is for (R170): it decides what its grant and its completion do. A stream status write carries whether
it reports a transition that raises STREAM, a port status write how many PORT notices it reports (R159). -/
inductive Purpose where
  | scanRow (row : Nat)
  | captureLine (row : Nat)
  | directoryRead
  | statusInit (last : Bool)
  | returnRead (s : StreamId) (i : BankIx)
  | boardRead (first : Nat)
  | takenWrite (slot : SlotId)
  | answerWrite (slot : SlotId)
  | catalogWrite (s : StreamId) (i : BankIx) (event : CatalogEvent)
  | countRecord
  | streamRecordRead
  | streamStatus (notice : Bool)
  | cueRead
  | portStatus (notices : Nat)
  | window
  deriving DecidableEq, Repr

/-- What a burst does (R169): a read of some bytes, a write of given bytes, or the write of the notice count record,
whose bytes are the counts as they stand at the grant (R165). -/
inductive Access where
  | read (len : Nat)
  | write (bytes : List Byte)
  | writeCounts
  deriving DecidableEq, Repr

/-- A burst (R169). -/
structure Burst where
  purpose : Purpose
  addr : Nat
  access : Access
  deriving DecidableEq, Repr

/-- A burst that has been granted and has not completed: the bytes a read returned, for a board read the in-flight
marks of its slots (R123), and whether its client has given it up (R174, R177). -/
structure Granted where
  burst : Burst
  data : List Byte
  marks : List Bool
  discarded : Bool
  deriving DecidableEq, Repr

/-- A client's bursts: issued and not granted, and granted and not completed, both oldest first (R170, R171). -/
structure Client where
  queue : List Burst
  granted : List Granted
  deriving DecidableEq, Repr

/-- The burst that occupies the DRAM port (R171): its client, and whether its completion is a command (log 10). -/
structure PortUse where
  client : ClientId
  completes : Bool
  deriving DecidableEq, Repr

/-- The memory arbiter (R171) and whether the DRAM controller has initialised the DRAM (R180). `port` is port busy: the
granted burst that still occupies the DRAM port; `none` is a free port. -/
structure Arbiter where
  scan : Vector Client 4
  capture : Vector Client 8
  control : Vector Client 16
  window : Client
  rotScan : Fin 4
  rotCapture : Fin 8
  rotControl : Fin 16
  windowFloor : Nat
  controlFloor : Nat
  port : Option PortUse
  dramReady : Bool
  deriving DecidableEq, Repr

/-! ## What the outside is given -/

/-- The model's own record of what left the part (log 31): interrupt messages sent, the bytes that the last TIME_LO_READ
returned, the data of the last completed exchange window read burst with its address, and the last line each output port
sent on its link. -/
structure Outputs where
  messages : Nat
  timeRead : List Byte
  windowRead : Option (Nat × List Byte)
  lines : Vector (List Byte) 4
  deriving DecidableEq, Repr

end Sys2Proof.Machine
end

