-- ==== Sys2Proof/Machine/State.lean ====
section
/-! DEFINITION. The state of the NZ840, its reset value, and the two ways in which the model stops. -/

namespace Sys2Proof.Machine

/-- Exchange memory: addresses strictly rising, and no entry equal to what an unlisted address reads as. -/
abbrev Memory := List Host.Cell

/-- Everything the part holds, the model's record of its outputs, and the queue of commands that wait. `reports` are,
for each stream, the status record writes that wait for catalog record writes to complete (R57, R71, log 37). -/
structure State where
  ctl : RunControl
  time : Timebase
  ep : Endpoint
  notice : NoticeUnit
  req : RequestUnit
  bx : BankExchange
  pub : PublicationUnit
  streams : Vector Stream 8
  reports : Vector (List StatusReport) 8
  capture : Vector CapturePort 8
  walkers : Vector Walker 4
  ports : Vector Port 4
  arb : Arbiter
  mem : Memory
  out : Outputs
  pending : List Instr
  deriving DecidableEq, Repr

/-- Why the model stops where an address does not exist (log 26). -/
inductive Fault where
  /-- Raised by EXCHANGE_WINDOW_ACCESS for a range that is empty or reaches outside the 1 GiB exchange window: no such
  access reaches the part (spec/07 section 7.1, R178). Safe. -/
  | outsideExchangeWindow
  /-- Raised by BURST_GRANT for a burst that reaches outside exchange memory: there is no such address, and validation
  keeps every burst inside (spec/09 opening, R73, R140, R29). Safe. -/
  | outsideExchangeMemory
  deriving DecidableEq, Repr

/-- Why the model gives a command no meaning. -/
inductive Refusal where
  /-- Raised by an arm of `exec` whose command has no meaning yet. Safe. -/
  | notModelled (mnemonic : String)
  deriving DecidableEq, Repr

/-! ## Reset values, by the rule that states them -/

/-- R30, R48. -/
def FrameFlags.clear : FrameFlags := ⟨false, false⟩

/-- R2, last column. -/
def Bank.reset : Bank :=
  { state := .empty, seq := 0, captureTime := 0, lines := 0, flags := .clear, hold := none, catalog := .idle,
    lastTicket := 0 }

/-- R50, the reset column; also the adoption values. -/
def CatalogImage.reset : CatalogImage :=
  { reason := none, seq := 0, captureTime := 0, lines := 0, flags := .clear, reclaimCause := .none }

/-- R50; nothing is on its way to the bank exchange (log 34). -/
def PublishState.reset : PublishState := { nth := 0, holds := 0, offer := none }

/-- R39, R48. -/
def StreamCounters.zero : StreamCounters :=
  { arrived := 0, written := 0, decimated := 0, frozen := 0, dropped := 0, broken := 0, published := 0,
    publishMissed := 0, reclaimed := 0, lateReturns := 0 }

/-- R48; line count and flags by log 34. -/
def Stream.reset : Stream :=
  { state := .off, freeze := .none, config := none, seq := 0, decimation := 0, counters := .zero, placements := 0,
    lastBroken := .none, lossTimer := none, adoption := .none, waitingStop := none, waitingHold := none,
    lineCount := 0, lineFlags := .clear }

/-- R48, R175: both entries FREE. -/
def CapturePort.reset : CapturePort := { buffer := Vector.replicate 2 none, openLine := none, waiting := [] }

/-- R74, last column. -/
def Walker.reset : Walker :=
  { state := .idle false, fetchAddr := 0, fetchOrigin := .link, hops := 0, discardedRead := false }

/-- R105. -/
def PortCounters.zero : PortCounters :=
  { shown := 0, fresh := 0, repeated := 0, fill := 0, cueChanges := 0, lateCues := 0, skippedCues := 0,
    underrunLines := 0 }

/-- R91, last column; the frame on the link by log 34. -/
def Port.reset : Port :=
  { state := .off, raster := none, framePeriod := none, frameTimer := none, current := none, dwell := 0,
    claimed := none, shownSeq := 0, splice := none, waiting := none, faultCause := .none, faultAddr := 0,
    counters := .zero, frames := 0, buffer := Vector.replicate 2 .free, shown := .idle, linkLine := 0, nextRow := 0,
    underran := false }

/-- R171: nothing issued, nothing outstanding. -/
def Client.reset : Client := { queue := [], granted := [] }

/-- R171, last column; the DRAM is not initialised yet (R157). -/
def Arbiter.reset : Arbiter :=
  { scan := Vector.replicate 4 .reset, capture := Vector.replicate 8 .reset, control := Vector.replicate 16 .reset,
    window := .reset, rotScan := 0, rotCapture := 0, rotControl := 0, windowFloor := 0, controlFloor := 0,
    port := none, dramReady := false }

/-- R119, last column. -/
def RequestUnit.reset : RequestUnit :=
  { sweepTimer := none, sweep := .idle, sweepPending := false, nextSlot := 0, board := [],
    inFlight := Vector.replicate 32 none, halting := false, grabWait := none }

/-- The machine right after a power-on reset (R157): device HALTED, run 0, DIRBASE 0, every block at its reset values,
the DRAM not yet initialised, memory with nothing listed, and no command waiting. -/
def State.reset : State :=
  { ctl := { device := .halted, faultCause := .none, run := false, dirbase := 0, dirCopy := none, load := .none }
    time := { count := 0, latch := 0 }
    ep := { msiEnabled := false, vectorMasked := false, heldNudges := [], windowAhead := 0 }
    notice := { pending := 0, enable := 0, counts := Vector.replicate 6 0, owed := false, mirror := .none }
    req := .reset
    bx := { banks := Vector.replicate 8 (Vector.replicate 8 .reset), claims := Vector.replicate 4 none,
            geometry := Vector.replicate 8 none }
    pub := { streams := Vector.replicate 8 .reset, images := Vector.replicate 8 (Vector.replicate 8 .reset) }
    streams := Vector.replicate 8 .reset
    reports := Vector.replicate 8 []
    capture := Vector.replicate 8 .reset
    walkers := Vector.replicate 4 .reset
    ports := Vector.replicate 4 .reset
    arb := .reset
    mem := []
    out := { messages := 0, timeRead := [], windowRead := none, lines := Vector.replicate 4 [] }
    pending := [] }

end Sys2Proof.Machine
end

