-- ==== Sys2Proof/Machine/Ops.lean ====
section
/-! DEFINITION. Named operations over bytes, exchange memory, the arbiter's client queues, the timebase and the
per-stream, per-port and per-bank parts of State. Every rule file's meanings go through these. -/

namespace Sys2Proof.Machine

/-! ## Bytes (R181: every multi-byte field is little-endian) -/

/-- The `n` low bytes of `v`, least significant first. -/
def leBytes : Nat → Nat → List Byte
  | 0, _ => []
  | n + 1, v => BitVec.ofNat 8 v :: leBytes n (v / 256)

/-- The number that little-endian bytes spell. -/
def leNat : List Byte → Nat
  | [] => 0
  | b :: bs => b.toNat + 256 * leNat bs

/-- The unsigned field of `len` bytes at offset `off` of a record. -/
def fieldNat (bs : List Byte) (off len : Nat) : Nat := leNat ((bs.drop off).take len)

/-- The u8 field at offset `off`. -/
def fieldByte (bs : List Byte) (off : Nat) : Byte := BitVec.ofNat 8 (fieldNat bs off 1)
/-- The u16 field at offset `off`. -/
def fieldHalf (bs : List Byte) (off : Nat) : Half := BitVec.ofNat 16 (fieldNat bs off 2)
/-- The u32 field at offset `off`. -/
def fieldWord (bs : List Byte) (off : Nat) : Word := BitVec.ofNat 32 (fieldNat bs off 4)

/-- Reserved bytes, written as 0 (R181). -/
def zeros (n : Nat) : List Byte := List.replicate n 0

/-! ## Exchange memory -/

namespace Memory

/-- The byte at an address; one that is not listed reads as `Config.unwrittenByte` (log 4). -/
def read : Memory → Nat → Byte
  | [], _ => Config.unwrittenByte
  | (b, v) :: rest, a => if a = b then v else read rest a

/-- Writes one byte and keeps the canonical form: sorted by address, nothing listed that equals the unwritten byte. -/
def write : Memory → Nat → Byte → Memory
  | [], a, v => if v = Config.unwrittenByte then [] else [(a, v)]
  | (b, w) :: rest, a, v =>
    if a < b then (if v = Config.unwrittenByte then (b, w) :: rest else (a, v) :: (b, w) :: rest)
    else if a = b then (if v = Config.unwrittenByte then rest else (b, v) :: rest)
    else (b, w) :: write rest a v

/-- The canonical form: addresses strictly rising, no entry equal to what an unlisted address reads as. -/
def wf : Memory → Bool
  | [] => true
  | (a, v) :: rest => v != Config.unwrittenByte && rest.all (fun c => decide (a < c.1)) && wf rest

/-- The bytes of a range. -/
def readBytes (m : Memory) : Nat → Nat → List Byte
  | _, 0 => []
  | a, n + 1 => read m a :: readBytes m (a + 1) n

/-- Writes bytes from an address on. -/
def writeBytes : Memory → Nat → List Byte → Memory
  | m, _, [] => m
  | m, a, b :: bs => writeBytes (write m a b) (a + 1) bs

end Memory

/-! ## The arbiter's clients (R170) -/

/-- CONTROL client 0, run control. -/
def runControlClient : ClientId := .control 0
/-- CONTROL client 1, the request unit. -/
def requestClient : ClientId := .control 1
/-- CONTROL client 2, the publication unit. -/
def publicationClient : ClientId := .control 2
/-- CONTROL client 3, the notice unit. -/
def noticeClient : ClientId := .control 3
/-- CONTROL clients 4 to 11, the stream controllers. -/
def streamClient (s : StreamId) : ClientId := .control ⟨4 + s.val, by omega⟩
/-- CONTROL clients 12 to 15, the output ports with their cue walkers. -/
def portClient (p : PortId) : ClientId := .control ⟨12 + p.val, by omega⟩

/-- A client's bursts. -/
def Arbiter.client (a : Arbiter) : ClientId → Client
  | .scan p => a.scan[p]
  | .capture s => a.capture[s]
  | .control k => a.control[k]
  | .window => a.window

/-- Replaces a client's bursts. -/
def Arbiter.setClient (a : Arbiter) (c : ClientId) (x : Client) : Arbiter :=
  match c with
  | .scan p => { a with scan := a.scan.set p x }
  | .capture s => { a with capture := a.capture.set s x }
  | .control k => { a with control := a.control.set k x }
  | .window => { a with window := x }

/-- A client waits while it has a burst issued and not granted (R170). -/
def Client.isWaiting (c : Client) : Bool := !c.queue.isEmpty

/-- Whether a burst for such a purpose is issued or granted and has not completed. -/
def Client.outstanding (c : Client) (f : Purpose → Bool) : Bool :=
  c.queue.any (fun b => f b.purpose) || c.granted.any (fun g => f g.burst.purpose)

/-- Whether nothing at all is outstanding. -/
def Client.quiet (c : Client) : Bool := c.queue.isEmpty && c.granted.isEmpty

/-- Puts bursts at the end of a client's queue, in issue order (R170). -/
def Arbiter.issueAll (a : Arbiter) (c : ClientId) (bs : List Burst) : Arbiter :=
  a.setClient c { a.client c with queue := (a.client c).queue ++ bs }

/-- Takes the oldest granted burst of a client away: it has completed (R169). If it is the one that still occupied the
DRAM port, the last one granted, it has been carried out and the port is free (R171). -/
def Arbiter.complete (a : Arbiter) (c : ClientId) : Arbiter :=
  let rest := (a.client c).granted.tail
  let a' := a.setClient c { a.client c with granted := rest }
  if rest.isEmpty && a.port == some ⟨c, true⟩ then { a' with port := none } else a'

/-- Withdraws queued bursts (R174): they are never granted. -/
def Arbiter.withdraw (a : Arbiter) (c : ClientId) (f : Burst → Bool) : Arbiter :=
  a.setClient c { a.client c with queue := (a.client c).queue.filter (fun b => !f b) }

/-- Marks granted bursts as given up: they complete and their data is discarded (R174, R177). -/
def Arbiter.discard (a : Arbiter) (c : ClientId) (f : Burst → Bool) : Arbiter :=
  a.setClient c
    { a.client c with granted := (a.client c).granted.map fun g => if f g.burst then { g with discarded := true } else g }

/-- The client's bursts in a state. -/
def State.client (m : State) (c : ClientId) : Client := m.arb.client c

/-- Issues one burst. -/
def State.issue (m : State) (c : ClientId) (b : Burst) : State := { m with arb := m.arb.issueAll c [b] }

/-- Issues bursts in order. -/
def State.issueAll (m : State) (c : ClientId) (bs : List Burst) : State := { m with arb := m.arb.issueAll c bs }

/-- The oldest granted burst of a client is the one that completes next (R169). -/
def State.oldest (m : State) (c : ClientId) : Option Granted := (m.client c).granted.head?

/-- The oldest granted burst of a client completes. -/
def State.complete (m : State) (c : ClientId) : State := { m with arb := m.arb.complete c }

/-! ## Time (R155) -/

/-- The timebase value now. -/
def State.now (m : State) : Dword := m.time.count

/-- The timebase at the due time of a timer, or later if it has passed already (log 3). -/
def State.reach (m : State) (due : Dword) : State :=
  { m with time := { m.time with count := if m.time.count.toNat < due.toNat then due else m.time.count } }

/-- One microsecond passes (R155, log 2). -/
def State.tick (m : State) : State := { m with time := { m.time with count := m.time.count + 1 } }

/-! ## Device conditions -/

/-- The states in which the part writes status and catalog records and the count record (R41, R56, R106, R165). -/
def DeviceState.serves : DeviceState → Bool
  | .running | .stopping => true
  | .halted | .loading | .faulted => false

/-- The directory the other blocks work from (R138). With no copy, which only a state outside RUNNING and STOPPING can
hold, every field reads 0 (log 28). -/
def State.dir (m : State) : Directory :=
  m.ctl.dirCopy.getD
    { dirbase := 0, streamTableAddr := 0, boardAddr := 0, slotCount := 0, catalogAddr := 0, statusAddr := 0,
      sweepPeriod := 0 }

/-! ## One stream, port, walker, bank at a time -/

/-- The stream numbers in ascending order. -/
def allStreams : List StreamId := [0, 1, 2, 3, 4, 5, 6, 7]
/-- The bank indices in ascending order. -/
def allBanks : List BankIx := [0, 1, 2, 3, 4, 5, 6, 7]
/-- The port numbers in ascending order. -/
def allPorts : List PortId := [0, 1, 2, 3]
/-- The slot numbers in ascending order. -/
def allSlots : List SlotId := List.finRange 32
/-- The 64 bank positions in ascending order of stream and then bank (R66). -/
def allPositions : List (StreamId × BankIx) := allStreams.flatMap fun s => allBanks.map fun i => (s, i)

/-- The stream controller of stream `s`. -/
def State.stream (m : State) (s : StreamId) : Stream := m.streams[s]
/-- Changes one stream controller. -/
def State.modStream (m : State) (s : StreamId) (f : Stream → Stream) : State :=
  { m with streams := m.streams.set s (f m.streams[s]) }

/-- Capture port CPs. -/
def State.cport (m : State) (s : StreamId) : CapturePort := m.capture[s]
/-- Changes one capture port. -/
def State.modCapture (m : State) (s : StreamId) (f : CapturePort → CapturePort) : State :=
  { m with capture := m.capture.set s (f m.capture[s]) }

/-- Output port OPp. -/
def State.port (m : State) (p : PortId) : Port := m.ports[p]
/-- Changes one output port. -/
def State.modPort (m : State) (p : PortId) (f : Port → Port) : State :=
  { m with ports := m.ports.set p (f m.ports[p]) }

/-- The cue walker of OPp. -/
def State.walker (m : State) (p : PortId) : Walker := m.walkers[p]
/-- Changes one cue walker. -/
def State.modWalker (m : State) (p : PortId) (f : Walker → Walker) : State :=
  { m with walkers := m.walkers.set p (f m.walkers[p]) }

/-- The bank record of position (s, i) in the bank exchange. -/
def BankExchange.bank (x : BankExchange) (s : StreamId) (i : BankIx) : Bank := x.banks[s][i]
/-- Changes one bank record. -/
def BankExchange.modBank (x : BankExchange) (s : StreamId) (i : BankIx) (f : Bank → Bank) : BankExchange :=
  { x with banks := x.banks.set s (x.banks[s].set i (f x.banks[s][i])) }
/-- The bank record of position (s, i). -/
def State.bank (m : State) (s : StreamId) (i : BankIx) : Bank := m.bx.bank s i

/-- The publish state of stream `s`. -/
def State.publish (m : State) (s : StreamId) : PublishState := m.pub.streams[s]
/-- Changes the publish state of one stream. -/
def State.modPublish (m : State) (s : StreamId) (f : PublishState → PublishState) : State :=
  { m with pub := { m.pub with streams := m.pub.streams.set s (f m.pub.streams[s]) } }

/-- The catalog image of position (s, i). -/
def State.image (m : State) (s : StreamId) (i : BankIx) : CatalogImage := m.pub.images[s][i]
/-- Changes one catalog image. -/
def State.modImage (m : State) (s : StreamId) (i : BankIx) (f : CatalogImage → CatalogImage) : State :=
  { m with pub := { m.pub with images := m.pub.images.set s (m.pub.images[s].set i (f m.pub.images[s][i])) } }

/-- Changes the request unit. -/
def State.modReq (m : State) (f : RequestUnit → RequestUnit) : State := { m with req := f m.req }

/-- Changes run control. -/
def State.modCtl (m : State) (f : RunControl → RunControl) : State := { m with ctl := f m.ctl }

/-- Changes the bank exchange. -/
def State.modBx (m : State) (f : BankExchange → BankExchange) : State := { m with bx := f m.bx }

/-- Changes the arbiter. -/
def State.modArb (m : State) (f : Arbiter → Arbiter) : State := { m with arb := f m.arb }

end Sys2Proof.Machine
end

