-- ==== Sys2Proof/Machine/Operands.lean ====
section
/-! DEFINITION. The record layouts of spec/10: how the part decodes the directory, stream records, slots and cues it
reads, the code of every named value, and the bytes of every record it writes. -/

namespace Sys2Proof.Machine

/-! ## Codes -/

/-- STATE bits 2–0 (R187). -/
def DeviceState.code : DeviceState → Nat
  | .halted => 0 | .loading => 1 | .running => 2 | .stopping => 3 | .faulted => 4

/-- STATE bits 10–8 (R187). -/
def FaultCause.code : FaultCause → Nat
  | .none => 0 | .badMark => 1 | .badVersion => 2 | .badRegion => 3 | .regionOverlap => 4 | .badSlotCount => 5
  | .badPeriod => 6

/-- The code field of a slot (R183). -/
def RefusalCode.code : RefusalCode → Nat
  | .badKind => 1 | .badTarget => 2 | .badState => 3 | .badField => 4 | .range => 5 | .overlap => 6
  | .holdsRemain => 7 | .noFrame => 8 | .quota => 9 | .badCue => 10 | .superseded => 11 | .aborted => 12

/-- The state word of a slot (R183): POSTED, TAKEN, DONE and REFUSED. -/
def slotPosted : Nat := 1
/-- TAKEN. -/
def slotTaken : Nat := 2
/-- DONE. -/
def slotDone : Nat := 3
/-- REFUSED. -/
def slotRefused : Nat := 4

/-- The request kind a kind field names, if any (R183). -/
def RequestKind.ofCode (k : Half) : Option RequestKind :=
  match k.toNat with
  | 0x01 => some .nop
  | 0x10 => some .adoptStream
  | 0x11 => some .stopStream
  | 0x12 => some .holdStream
  | 0x13 => some .resumeStream
  | 0x14 => some .queryStream
  | 0x20 => some .grab
  | 0x30 => some .startPort
  | 0x31 => some .splice
  | 0x32 => some .stopPort
  | 0x33 => some .queryPort
  | _ => none

/-- format codes (R182). -/
def Format.ofCode : Nat → Option Format
  | 1 => some .yc16 | 2 => some .y8 | _ => none
/-- format codes (R182, R184). -/
def Format.code : Format → Nat
  | .yc16 => 1 | .y8 => 2
/-- Bytes per pixel (R27). -/
def Format.bytesPerPixel : Format → Nat
  | .yc16 => 2 | .y8 => 1

/-- publish_policy codes (R182). -/
def PublishPolicy.ofCode : Nat → Option PublishPolicy
  | 0 => some .none | 1 => some .every | 2 => some .nth | _ => Option.none
/-- on_loss codes (R182). -/
def OnLoss.ofCode : Nat → Option OnLoss
  | 0 => some .fill | 1 => some .last | _ => none

/-- rec_state codes (R184). -/
def CatalogState.code : CatalogState → Nat
  | .idle => 0 | .held => 1 | .reclaimed => 2
/-- reason codes (R184). -/
def reasonCode : Option HoldReason → Nat
  | none => 0 | some .published => 1 | some .grabbed => 2
/-- reclaim_cause codes (R184). -/
def ReclaimCause.code : ReclaimCause → Nat
  | .none => 0 | .expiry => 1 | .halt => 2
/-- frame_flags bits (R184). -/
def FrameFlags.code (f : FrameFlags) : Nat := (if f.truncated then 1 else 0) + (if f.narrow then 2 else 0)

/-- Stream state codes (R186). -/
def StreamState.code : StreamState → Nat
  | .off => 0 | .seeking => 1 | .live => 2 | .lost => 3 | .draining => 4
/-- freeze_mode codes (R186). -/
def FreezeMode.code : FreezeMode → Nat
  | .none => 0 | .pending => 1 | .active => 2
/-- last_broken_cause codes (R186). -/
def BreakCause.code : BreakCause → Nat
  | .none => 0 | .interrupted => 1 | .overrun => 2 | .short => 3 | .lost => 4 | .drainCut => 5
/-- Port state codes (R186). -/
def PortState.code : PortState → Nat
  | .off => 0 | .starting => 1 | .showing => 2 | .parked => 3 | .stalled => 4 | .stopping => 5
/-- fault_cause codes of a port status record (R186). -/
def PortFault.code : PortFault → Nat
  | .none => 0 | .badCue => 1
/-- splice_pending codes (R186). -/
def spliceCode : Option PendingSplice → Nat
  | none => 0
  | some sp => match sp.timing with | .cueEnd => 1 | .nextFrame => 2
/-- cur_source codes (R186): 0xFF is none. -/
def sourceCode : Option CurrentCue → Nat
  | none => 0xFF
  | some c => match c.cue.source with | .stream s => s.val | .background => 15

/-! ## The directory (R138 to R140, R182) -/

/-- The six fields that a copy of the directory keeps, from the 64 bytes read at `base` (R138, R182). -/
def decodeDirectory (base : Word) (bs : List Byte) : Directory :=
  { dirbase := base, streamTableAddr := fieldWord bs 0x08, boardAddr := fieldWord bs 0x0C,
    slotCount := fieldWord bs 0x10, catalogAddr := fieldWord bs 0x14, statusAddr := fieldWord bs 0x18,
    sweepPeriod := fieldWord bs 0x1C }

/-- A region of exchange memory: its first address and its size in bytes. -/
structure Region where
  base : Nat
  size : Nat
  deriving DecidableEq, Repr

/-- Two regions overlap when some byte address lies in both; touching is not overlapping (R140). -/
def Region.overlaps (a b : Region) : Bool :=
  decide (a.base < b.base + b.size) && decide (b.base < a.base + a.size)

/-- The directory, 64 bytes (section 7.1). -/
def Directory.ownRegion (d : Directory) : Region := ⟨d.dirbase.toNat, 64⟩
/-- The stream table, 512 bytes. -/
def Directory.streamTable (d : Directory) : Region := ⟨d.streamTableAddr.toNat, 512⟩
/-- The request board, slot_count × 128 bytes. -/
def Directory.boardRegion (d : Directory) : Region := ⟨d.boardAddr.toNat, d.slotCount.toNat * 128⟩
/-- The catalog, 4 KiB. -/
def Directory.catalog (d : Directory) : Region := ⟨d.catalogAddr.toNat, 4096⟩
/-- The status area, 1 KiB. -/
def Directory.statusArea (d : Directory) : Region := ⟨d.statusAddr.toNat, 1024⟩

/-- The five regions that R140 compares pair by pair. -/
def Directory.regions (d : Directory) : List Region :=
  [d.ownRegion, d.streamTable, d.boardRegion, d.catalog, d.statusArea]

/-- A region is aligned and lies inside exchange memory (R140). -/
def Region.placed (r : Region) (alignment : Nat) : Bool :=
  r.base % alignment == 0 && decide (r.base + r.size ≤ Config.memorySize)

/-- The placement check on the four regions that the directory places (R140). -/
def Directory.placementOk (d : Directory) : Bool :=
  d.streamTable.placed 64 && d.boardRegion.placed 128 && d.catalog.placed 4096 && d.statusArea.placed 1024

/-- Some pair of a list of regions overlaps (R140). -/
def anyOverlap : List Region → Bool
  | [] => false
  | r :: rest => rest.any (r.overlaps ·) || anyOverlap rest

/-- The checks of R139 in order on the bytes read; `none` is a valid directory. -/
def directoryFault (base : Word) (bs : List Byte) : Option FaultCause :=
  let d := decodeDirectory base bs
  if fieldNat bs 0x00 4 ≠ Config.dirMark then some .badMark
  else if fieldNat bs 0x04 4 ≠ 1 then some .badVersion
  else if d.slotCount.toNat = 0 ∨ 32 < d.slotCount.toNat then some .badSlotCount
  else if d.sweepPeriod.toNat = 0 ∨ 255 < d.sweepPeriod.toNat then some .badPeriod
  else if !d.placementOk then some .badRegion
  else if anyOverlap d.regions then some .regionOverlap
  else none

/-! ## Stream records (R27, R28, R182) -/

/-- The field checks of R28 in the order of the table of R27; every failure is BAD_FIELD. -/
def decodeStreamRecord (bs : List Byte) : Option StreamConfig :=
  let base := fieldWord bs 0x00
  let count := fieldByte bs 0x04
  let width := fieldHalf bs 0x08
  let height := fieldHalf bs 0x0A
  let pitch := fieldHalf bs 0x0C
  let divisor := fieldByte bs 0x0E
  let n := fieldByte bs 0x0F
  let limit := fieldByte bs 0x10
  let lossTimeout := fieldHalf bs 0x12
  let holdTime := fieldHalf bs 0x14
  match Format.ofCode (fieldNat bs 0x05 1), PublishPolicy.ofCode (fieldNat bs 0x06 1),
      OnLoss.ofCode (fieldNat bs 0x07 1) with
  | some format, some policy, some onLoss =>
    if base.toNat % 4096 = 0 ∧ (2 ≤ count.toNat ∧ count.toNat ≤ 8)
      ∧ (16 ≤ width.toNat ∧ width.toNat ≤ 2048 ∧ width.toNat % 16 = 0)
      ∧ (16 ≤ height.toNat ∧ height.toNat ≤ 2048)
      ∧ (pitch.toNat % 64 = 0 ∧ width.toNat * format.bytesPerPixel ≤ pitch.toNat ∧ pitch.toNat ≤ 16384)
      ∧ (1 ≤ divisor.toNat ∧ divisor.toNat ≤ 16)
      ∧ (policy = .nth → 2 ≤ n.toNat)
      ∧ (limit.toNat ≤ count.toNat - 2 ∧ (policy ≠ .none → 1 ≤ limit.toNat))
      ∧ holdTime.toNat ≤ 60000
      ∧ (10 ≤ lossTimeout.toNat ∧ lossTimeout.toNat ≤ 2000)
    then some
      { bankBase := base, bankCount := count, width := width, height := height, pitch := pitch, format := format,
        captureDivisor := divisor, publishPolicy := policy, publishN := n, holdLimit := limit, holdTime := holdTime,
        lossTimeout := lossTimeout, onLoss := onLoss }
    else none
  | _, _, _ => none

/-- The geometry that the bank exchange copies from a configuration (R1). -/
def StreamConfig.geometry (c : StreamConfig) : Geometry :=
  { bankBase := c.bankBase, bankCount := c.bankCount, width := c.width, height := c.height, pitch := c.pitch,
    format := c.format }

/-- The bank stride: pitch × height rounded up to a multiple of 4096 (R1). -/
def Geometry.stride (g : Geometry) : Nat := (g.pitch.toNat * g.height.toNat + 4095) / 4096 * 4096
/-- The first address of bank `i` (R1). -/
def Geometry.bankAddr (g : Geometry) (i : BankIx) : Nat := g.bankBase.toNat + i.val * g.stride
/-- The footprint of the bank set (R1). -/
def Geometry.footprint (g : Geometry) : Region := ⟨g.bankBase.toNat, g.bankCount.toNat * g.stride⟩
/-- The bytes of a row: width pixels (R175). -/
def Geometry.rowBytes (g : Geometry) : Nat := g.width.toNat * g.format.bytesPerPixel
/-- Index 0 to bank_count − 1 (R1). -/
def Geometry.inSet (g : Geometry) (i : BankIx) : Bool := decide (i.val < g.bankCount.toNat)

/-! ## Slots (R183) -/

/-- One slot of the board as a 128-byte read gives it (R123, R183). -/
def decodeSlot (bs : List Byte) (inFlight : Bool) : BoardSlot :=
  { state := fieldWord bs 0x00
    request :=
      { kind := fieldHalf bs 0x04, target := fieldByte bs 0x06, flags := fieldByte bs 0x07, tag := fieldHalf bs 0x08,
        args := #v[fieldWord bs 0x0C, fieldWord bs 0x10, fieldWord bs 0x14, fieldWord bs 0x18, fieldWord bs 0x1C,
          fieldWord bs 0x20] }
    inFlight := inFlight }

/-- The slots that one board read burst carries: one for each of its in-flight marks (R123). -/
def decodeSlots : List Byte → List Bool → List BoardSlot
  | _, [] => []
  | bs, mark :: marks => decodeSlot (bs.take 128) mark :: decodeSlots (bs.drop 128) marks

/-- Bit 0 of flags: the timing flag of SPLICE, the clear flag of the queries (R183). -/
def Request.flag (r : Request) : Bool := r.flags.getLsbD 0

/-- The block that decides a request (R126); BAD_KIND and BAD_TARGET stay with the request unit (R125). -/
def Request.owner (r : Request) : Owner :=
  match RequestKind.ofCode r.kind with
  | none | some .nop => .requestUnit
  | some .grab => if r.target.toNat < 8 then .publicationUnit else .requestUnit
  | some .adoptStream | some .stopStream | some .holdStream | some .resumeStream | some .queryStream =>
    if h : r.target.toNat < 8 then .streamController ⟨r.target.toNat, h⟩ else .requestUnit
  | some .startPort | some .splice | some .stopPort | some .queryPort =>
    if h : r.target.toNat < 4 then .outputPort ⟨r.target.toNat, h⟩ else .requestUnit

/-- A result word list filled up with zeros to sixteen words (R128). -/
def resultWords (rs : List Word) : List Word := (rs ++ List.replicate 16 0).take 16

/-- The state word and the code of an answer (R128). -/
def Answer.codes : Answer → Nat × Nat
  | .done _ => (slotDone, 0)
  | .refused c => (slotRefused, c.code)

/-- The sixteen result words of an answer (R128). -/
def Answer.results : Answer → List Word
  | .done rs => resultWords rs
  | .refused _ => resultWords []

/-- The 128 bytes of an answer write (R128, R183). -/
def answerBytes (r : Request) (ans : Answer) (time : Dword) : List Byte :=
  leBytes 4 ans.codes.1 ++ leBytes 2 r.kind.toNat ++ leBytes 1 r.target.toNat ++ leBytes 1 r.flags.toNat
    ++ leBytes 2 r.tag.toNat ++ zeros 2 ++ r.args.toList.flatMap (fun w => leBytes 4 w.toNat)
    ++ leBytes 4 ans.codes.2 ++ ans.results.flatMap (fun w => leBytes 4 w.toNat) ++ leBytes 8 time.toNat ++ zeros 16

/-! ## Cues (R73, R185) -/

/-- An address that a walker may read: a multiple of 32 below 0x40000000 (R73, R107, R109). -/
def cueAddressOk (a : Nat) : Bool := a % 32 == 0 && decide (a < Config.memorySize)

/-- The source named by the low four bits of byte 0x01; 8 to 14 name none (R185). -/
def decodeSource (b : Byte) : Option CueSource :=
  let n := b.toNat % 16
  if h : n < 8 then some (.stream ⟨n, h⟩) else if n = 15 then some .background else none

/-- The cue in 32 bytes read, or `none` when it is not valid (R73). -/
def decodeCue (bs : List Byte) : Option Cue :=
  match decodeSource (fieldByte bs 0x01) with
  | none => none
  | some source =>
    let link := fieldWord bs 0x0C
    if fieldNat bs 0x00 1 = Config.cueMark ∧ 1 ≤ fieldNat bs 0x08 2
      ∧ (link.toNat = Config.endLink ∨ cueAddressOk link.toNat = true)
    then some
      { source := source, skipIfLost := (fieldByte bs 0x02).getLsbD 0, notify := (fieldByte bs 0x02).getLsbD 1,
        fill := ⟨fieldByte bs 0x04, fieldByte bs 0x05, fieldByte bs 0x06⟩, dwell := fieldHalf bs 0x08,
        tag := fieldHalf bs 0x0A, link := if link.toNat = Config.endLink then none else some link }
    else none

/-! ## Records the part writes -/

/-- A catalog record's 60 device-written bytes (R184). -/
def catalogBytes (state : CatalogState) (ticket : Half) (im : CatalogImage) (addr : Nat) (g : Geometry) : List Byte :=
  leBytes 1 state.code ++ leBytes 1 (reasonCode im.reason) ++ leBytes 1 im.reclaimCause.code
    ++ leBytes 1 im.flags.code ++ leBytes 2 ticket.toNat ++ leBytes 2 im.lines.toNat ++ leBytes 8 im.seq.toNat
    ++ leBytes 8 im.captureTime.toNat ++ leBytes 4 addr ++ leBytes 2 g.width.toNat ++ leBytes 2 g.height.toNat
    ++ leBytes 2 g.pitch.toNat ++ leBytes 1 g.format.code ++ zeros 25

/-- A stream status record (R41, R186). -/
def streamStatusBytes (state : StreamState) (freeze : FreezeMode) (broken : BreakCause) (holds : Nat) (lastSeq : Dword)
    (placements : Word) (time : Dword) : List Byte :=
  leBytes 1 state.code ++ leBytes 1 freeze.code ++ leBytes 1 broken.code ++ zeros 1 ++ leBytes 4 holds
    ++ leBytes 8 lastSeq.toNat ++ leBytes 4 placements.toNat ++ zeros 4 ++ leBytes 8 time.toNat ++ zeros 32

/-- A port status record (R106, R186); `next` is the address of a READY valid cue of origin LINK. -/
def portStatusBytes (q : Port) (next : Option Word) (time : Dword) : List Byte :=
  leBytes 1 q.state.code ++ leBytes 1 q.faultCause.code ++ leBytes 1 (spliceCode q.splice)
    ++ leBytes 1 (sourceCode q.current)
    ++ leBytes 4 (match q.current with | none => Config.endLink | some c => c.addr.toNat)
    ++ leBytes 2 (match q.current with | none => 0 | some c => c.cue.tag.toNat) ++ zeros 2
    ++ leBytes 4 (match next with | none => Config.endLink | some a => a.toNat)
    ++ leBytes 4 (match q.splice with | none => 0 | some sp => sp.head.toNat)
    ++ leBytes 4 q.faultAddr.toNat ++ leBytes 8 q.shownSeq.toNat ++ leBytes 4 q.frames.toNat ++ zeros 4
    ++ leBytes 8 time.toNat
    ++ leBytes 2 (match q.raster with | none => 0 | some r => r.width.toNat)
    ++ leBytes 2 (match q.raster with | none => 0 | some r => r.height.toNat)
    ++ leBytes 4 (match q.framePeriod with | none => 0 | some t => t.toNat) ++ zeros 8

/-- The notice count record (R186). -/
def countRecordBytes (counts : Vector Word 6) : List Byte :=
  counts.toList.flatMap (fun w => leBytes 4 w.toNat) ++ zeros 40

end Sys2Proof.Machine
end

