-- ==== Sys2Proof/Machine/Flags.lean ====
section
/-! DEFINITION. The notice unit's sets, counts and interrupt condition (spec/08), and the counters' increments. -/

namespace Sys2Proof.Machine

/-- The bit of a kind in NOTICE_PENDING and NOTICE_ENABLE, and its place among the counts (R187, R165). -/
def NoticeKind.index : NoticeKind → Fin 6
  | .answered => 0 | .published => 1 | .reclaimed => 2 | .stream => 3 | .port => 4 | .device => 5

/-- The set that holds one kind. -/
def NoticeKind.bit (k : NoticeKind) : BitVec 6 := BitVec.twoPow 6 k.index.val

/-- The interrupt condition: the two sets share at least one kind (R163). -/
def NoticeUnit.condition (n : NoticeUnit) : Bool := (n.pending &&& n.enable) != 0#6

/-- The endpoint is asked for one interrupt message (R164). -/
def State.askMessage (m : State) : State :=
  if !m.ep.msiEnabled then m
  else if m.ep.vectorMasked then { m with notice := { m.notice with owed := true } }
  else { m with out := { m.out with messages := m.out.messages + 1 } }

/-- Replaces the two sets and evaluates the interrupt condition again: a change to true asks for a message, a change to
false clears message owed (R163, R164). -/
def State.setNotices (m : State) (pending enable : BitVec 6) : State :=
  let n := { m.notice with pending := pending, enable := enable }
  let m' := { m with notice := n }
  if m.notice.condition then
    if n.condition then m' else { m' with notice := { n with owed := false } }
  else if n.condition then m'.askMessage
  else m'

/-- The burst that writes the notice count record at status_addr + 768 (R137, R165). -/
def State.countRecordBurst (m : State) : Burst :=
  { purpose := .countRecord, addr := m.dir.statusAddr.toNat + 768, access := .writeCounts }

/-- A write of the notice count record is asked for (R165, first column of events). -/
def State.askMirror (m : State) : State :=
  match m.notice.mirror with
  | .none => { m with notice := { m.notice with mirror := .waiting } }.issue noticeClient m.countRecordBurst
  | .waiting => m
  | .issued => { m with notice := { m.notice with mirror := .issuedAgain } }
  | .issuedAgain => m

/-- Adds 1 to the count of a kind (R160). -/
def NoticeUnit.count (n : NoticeUnit) (k : NoticeKind) : NoticeUnit :=
  { n with counts := n.counts.set k.index (n.counts[k.index] + 1) }

/-- The notice unit takes a raise of kind `k`, in one step (R160). -/
def State.raise (m : State) (k : NoticeKind) : State :=
  let m := { m with notice := m.notice.count k }
  let m := m.setNotices (m.notice.pending ||| k.bit) m.notice.enable
  if m.ctl.device.serves then m.askMirror else m

/-- As many raises of one kind as a record reports (R159). -/
def State.raiseTimes (m : State) (k : NoticeKind) : Nat → State
  | 0 => m
  | n + 1 => (m.raise k).raiseTimes k n

/-- Adds 1 to one of a stream's counters. -/
def State.modStreamCounters (m : State) (s : StreamId) (f : StreamCounters → StreamCounters) : State :=
  m.modStream s fun t => { t with counters := f t.counters }

/-- Adds 1 to one of a port's counters. -/
def State.modPortCounters (m : State) (p : PortId) (f : PortCounters → PortCounters) : State :=
  m.modPort p fun q => { q with counters := f q.counters }

end Sys2Proof.Machine
end

