-- ==== Sys2Proof/Machine/BankExchange.lean ====
section
/-! DEFINITION. The bank exchange (spec/01): the writer's choice, grant, completion and break, claims and releases, the
hold operations on a bank, retirement of an OFF stream's banks, and what the exchange hands to other blocks. -/

namespace Sys2Proof.Machine

/-! ## Marks (R4, section 1.2) -/

/-- Port `p` is in the claim set of bank (s, i): its claim table entry names it (R4). -/
def BankExchange.claimedBy (x : BankExchange) (s : StreamId) (i : BankIx) (p : PortId) : Bool :=
  x.claims[p] == some (s, i)

/-- The claim set of bank (s, i) is not empty (R4). -/
def BankExchange.claimed (x : BankExchange) (s : StreamId) (i : BankIx) : Bool := allPorts.any (x.claimedBy s i)

/-- The bank carries a claim or a host hold (section 1.2). -/
def BankExchange.marked (x : BankExchange) (s : StreamId) (i : BankIx) : Bool :=
  x.claimed s i || (x.bank s i).hold.isSome

/-- Index `i` takes part in the bank set of stream `s` (R1). -/
def BankExchange.inSet (x : BankExchange) (s : StreamId) (i : BankIx) : Bool :=
  match x.geometry[s] with
  | none => false
  | some g => g.inSet i

/-- The geometry of a stream, all zero before its first adoption (log 28). -/
def BankExchange.geom (x : BankExchange) (s : StreamId) : Geometry :=
  (x.geometry[s]).getD ⟨0, 0, 0, 0, 0, .yc16⟩

/-- The address of bank (s, i) (R1). -/
def BankExchange.addr (x : BankExchange) (s : StreamId) (i : BankIx) : Nat := (x.geom s).bankAddr i

/-! ## The writer (R6, R7, R9, R10) -/

/-- A candidate for the writer (R6). -/
def BankExchange.candidate (x : BankExchange) (s : StreamId) (i : BankIx) : Bool :=
  x.inSet s i && (x.bank s i).state != .filling && !x.claimed s i && (x.bank s i).hold.isNone

/-- Of a list of bank indices, the one whose bank has the lowest seq; the earlier one of two equals. -/
def BankExchange.lowestSeq (x : BankExchange) (s : StreamId) : List BankIx → Option BankIx
  | [] => none
  | i :: rest =>
    match x.lowestSeq s rest with
    | none => some i
    | some j => if (x.bank s i).seq.toNat ≤ (x.bank s j).seq.toNat then some i else some j

/-- Of a list of bank indices, the one whose bank has the highest seq; the earlier one of two equals. -/
def BankExchange.highestSeq (x : BankExchange) (s : StreamId) : List BankIx → Option BankIx
  | [] => none
  | i :: rest =>
    match x.highestSeq s rest with
    | none => some i
    | some j => if (x.bank s j).seq.toNat ≤ (x.bank s i).seq.toNat then some i else some j

/-- The writer's bank: the EMPTY candidate with the lowest index, else the VALID candidate with the lowest seq, else
none (R6). -/
def BankExchange.writerChoice (x : BankExchange) (s : StreamId) : Option BankIx :=
  match (allBanks.filter (x.candidate s)).find? (fun i => (x.bank s i).state == .empty) with
  | some i => some i
  | none => x.lowestSeq s (allBanks.filter (x.candidate s))

/-- The FILLING bank of a stream (R7: at most one). -/
def BankExchange.filling (x : BankExchange) (s : StreamId) : Option BankIx :=
  allBanks.find? fun i => (x.bank s i).state == .filling

/-- The FILLING bank of a stream. -/
def State.filling (m : State) (s : StreamId) : Option BankIx := m.bx.filling s

/-- EMPTY, with seq, capture_time and lines 0 and frame_flags empty; the hold side is kept (R10, R16, R18). -/
def Bank.clear (b : Bank) : Bank :=
  { b with state := .empty, seq := 0, captureTime := 0, lines := 0, flags := .clear }

/-- The grant of a bank to a writer (R7). -/
def Bank.grant (b : Bank) (seq time : Dword) : Bank :=
  { b with state := .filling, seq := seq, captureTime := time, lines := 0, flags := .clear }

/-- The completion of the frame in a FILLING bank (R9). -/
def Bank.fill (b : Bank) (lines : Half) (flags : FrameFlags) : Bank :=
  { b with state := .valid, lines := lines, flags := flags }

/-! ## Newest frames (R11, R22) -/

/-- The newest VALID bank of the bank set among those that satisfy a test. -/
def BankExchange.newestWith (x : BankExchange) (s : StreamId) (f : BankIx → Bool) : Option BankIx :=
  x.highestSeq s (allBanks.filter fun i => x.inSet s i && (x.bank s i).state == .valid && f i)

/-- The newest VALID bank of the stream, whatever marks it carries (R11). -/
def BankExchange.newest (x : BankExchange) (s : StreamId) : Option BankIx := x.newestWith s fun _ => true

/-- holds of the stream status record: the number of banks of a stream that carry a host hold (R22). -/
def BankExchange.heldCount (x : BankExchange) (s : StreamId) : Nat :=
  allBanks.countP fun i => (x.bank s i).hold.isSome

/-- last_seq of the stream status record (R22). -/
def BankExchange.lastSeq (x : BankExchange) (s : StreamId) : Dword :=
  match x.newest s with
  | none => 0
  | some i => (x.bank s i).seq

/-! ## Retirement (R17, R18) -/

/-- A VALID bank of a stream that is OFF and that carries no mark becomes EMPTY (R17, R18). -/
def BankExchange.retire (x : BankExchange) (off : Bool) (s : StreamId) (i : BankIx) : BankExchange :=
  if off && (x.bank s i).state == .valid && !x.marked s i then x.modBank s i Bank.clear else x

/-- The banks of a stream that enters OFF are sorted by their marks (R17). -/
def BankExchange.retireAll (x : BankExchange) (s : StreamId) : BankExchange :=
  allBanks.foldl (fun y i => y.retire true s i) x

/-- Whether a stream is OFF. -/
def State.isOff (m : State) (s : StreamId) : Bool := (m.stream s).state == .off

/-! ## Claims (R11, R12) -/

/-- The values of an answer that names bank (s, i) (R11). -/
def BankExchange.answerFor (x : BankExchange) (s : StreamId) (i : BankIx) : ClaimedBank :=
  let b := x.bank s i
  let g := x.geom s
  { stream := s, bank := i, addr := BitVec.ofNat 32 (x.addr s i), seq := b.seq, captureTime := b.captureTime,
    lines := b.lines, flags := b.flags, width := g.width, height := g.height, pitch := g.pitch, format := g.format }

/-- The claim table entry of port `p` becomes `e`; the bank it named before is retired if that was its last mark and its
stream is OFF (R11, R12, R18). -/
def State.setClaim (m : State) (p : PortId) (e : Option (StreamId × BankIx)) : State :=
  let x := { m.bx with claims := m.bx.claims.set p e }
  match m.bx.claims[p] with
  | none => { m with bx := x }
  | some (s, i) => { m with bx := x.retire (m.isOff s) s i }

/-- A claim request of port `p` for stream `s` (R11). -/
def State.claimRequest (m : State) (p : PortId) (s : StreamId) : State × ClaimAnswer :=
  match if m.isOff s then none else m.bx.newest s with
  | none => (m.setClaim p none, .noFrame)
  | some j =>
    match m.bx.claims[p] with
    | some (t, i) =>
      if t = s ∧ (m.bx.bank s j).seq.toNat ≤ (m.bx.bank s i).seq.toNat then (m, .repeated)
      else (m.setClaim p (some (s, j)), .fresh (m.bx.answerFor s j))
    | none => (m.setClaim p (some (s, j)), .fresh (m.bx.answerFor s j))

/-- A release from port `p` (R12). -/
def State.releaseClaim (m : State) (p : PortId) : State := m.setClaim p none

/-! ## Host holds (R14, R15, R54) -/

/-- The ticket after the last one: one more, and 1 after 65535 (R54). -/
def nextTicket (t : Half) : Half := if t.toNat = 65535 then 1 else t + 1

/-- The exchange accepts a placement on a VALID bank that carries no hold (R14). -/
def BankExchange.placeable (x : BankExchange) (s : StreamId) (i : BankIx) : Bool :=
  (x.bank s i).state == .valid && (x.bank s i).hold.isNone

/-- An accepted placement (R14, R54). -/
def Bank.place (b : Bank) (deadline : Option Dword) (reason : HoldReason) : Bank :=
  { b with hold := some ⟨nextTicket b.lastTicket, deadline, reason⟩, lastTicket := nextTicket b.lastTicket,
           catalog := .held }

/-- The end of the hold on bank (s, i), leaving the catalog state given; a bank of an OFF stream without claims becomes
EMPTY (R15). -/
def BankExchange.endHold (x : BankExchange) (off : Bool) (s : StreamId) (i : BankIx) (c : CatalogState) : BankExchange :=
  (x.modBank s i fun b => { b with hold := none, catalog := c }).retire off s i

/-! ## Adoption (R1, R16) -/

/-- The bank set of an adoption that takes effect: 8 EMPTY positions with catalog state IDLE and the last tickets kept,
and the new geometry (R1, R16). -/
def BankExchange.adopt (x : BankExchange) (s : StreamId) (g : Geometry) : BankExchange :=
  { x with
    banks := x.banks.set s ((x.banks[s]).map fun b => { b.clear with catalog := .idle })
    geometry := x.geometry.set s (some g) }

/-- The stream has a bank that carries a host hold. -/
def BankExchange.anyHold (x : BankExchange) (s : StreamId) : Bool := allBanks.any fun i => (x.bank s i).hold.isSome

/-- Some output port claims a bank of the stream. -/
def BankExchange.anyClaim (x : BankExchange) (s : StreamId) : Bool := allBanks.any fun i => x.claimed s i

/-- A retained bank of an OFF stream lies within a region: it is VALID and marked (R18) and its bytes meet the region
(log 21). -/
def BankExchange.retainedWithin (x : BankExchange) (s : StreamId) (r : Region) : Bool :=
  allBanks.any fun i =>
    (x.bank s i).state == .valid && x.marked s i && r.overlaps ⟨x.addr s i, (x.geom s).stride⟩

end Sys2Proof.Machine
end

