-- ==== Sys2Proof/Machine/StatusRecords.lean ====
section
/-! DEFINITION. The status area (R137): the stream, port and notice count records, when they are written and what their
completions bring. -/

namespace Sys2Proof.Machine

/-- The stream status record that an event asks for as it stands at the end of the event (R41, R22, log 37). -/
def State.statusReport (m : State) (s : StreamId) (notice awaitsCatalog : Bool) : StatusReport :=
  { state := (m.stream s).state, freeze := (m.stream s).freeze, notice := notice, holds := m.bx.heldCount s,
    awaitsCatalog := awaitsCatalog }

/-- The bytes of the stream status record of stream `s` written now for a report (R41, log 17). -/
def State.streamRecord (m : State) (s : StreamId) (r : StatusReport) : List Byte :=
  let t := m.stream s
  streamStatusBytes r.state r.freeze t.lastBroken r.holds (m.bx.lastSeq s) t.placements m.now

/-- The status record write of stream `s` for a report, in one burst (R41). -/
def State.streamStatusBurst (m : State) (s : StreamId) (r : StatusReport) : Burst :=
  { purpose := .streamStatus r.notice, addr := m.dir.statusAddr.toNat + s.val * 64,
    access := .write (m.streamRecord s r) }

/-- An event of stream `s` asks for a write of its status record, behind what other events have asked for. -/
def State.askReport (m : State) (s : StreamId) (r : StatusReport) : State :=
  { m with reports := m.reports.set s (m.reports[s] ++ [r]) }

/-- The status record writes of stream `s` that no catalog record write holds back are issued in the order of their
events, while the device is RUNNING or STOPPING (R41, R71, log 37). -/
def State.issueReports (m : State) (s : StreamId) : State :=
  let ready := m.reports[s].takeWhile fun r => !r.awaitsCatalog
  let waiting := m.reports[s].dropWhile fun r => !r.awaitsCatalog
  { m.issueAll (streamClient s) (if m.ctl.device.serves then ready.map (m.streamStatusBurst s) else []) with
    reports := m.reports.set s waiting }

/-- The stream status record is written for an event other than a hold event (R41); `notice` says that it reports a
transition for which STREAM is raised (R159). The model's choice: it waits for the catalog record writes of the hold
events before it (log 37). -/
def State.writeStreamStatus (m : State) (s : StreamId) (notice : Bool) : State :=
  (m.askReport s (m.statusReport s notice false)).issueReports s

/-- A hold event of stream `s` asks for the status record write that follows its catalog record write (R57, R67). -/
def State.noteHold (m : State) (s : StreamId) : State := m.askReport s (m.statusReport s false true)

/-- The reports after the catalog record write of the oldest hold event among them has completed. -/
def settleOldest : List StatusReport → List StatusReport
  | [] => []
  | r :: l => if r.awaitsCatalog = true then { r with awaitsCatalog := false } :: l else r :: settleOldest l

/-- The catalog record write of the oldest hold event of stream `s` has completed, so the status record is written with
the holds count after that event (R57, R189). -/
def State.holdEventWritten (m : State) (s : StreamId) : State :=
  { m with reports := m.reports.set s (settleOldest m.reports[s]) }.issueReports s

/-- The transitions for which a STREAM notice is raised (R30). -/
def raisesStream : StreamState → StreamState → Bool
  | .seeking, .live | .seeking, .lost | .live, .lost | .lost, .live => true
  | .seeking, .off | .live, .off | .lost, .off | .draining, .off => true
  | _, _ => false

/-- After all effects of an event at a stream that was `before`: one status write if its state or its freeze mode has
changed (R41), reporting the transition if it raises STREAM (R30, R159). -/
def State.noteStream (before : Stream) (s : StreamId) (m : State) : State :=
  let t := m.stream s
  if t.state = before.state ∧ t.freeze = before.freeze then m
  else m.writeStreamStatus s (raisesStream before.state t.state)

/-- After all effects of a frame end that was taken in state `before` (R41). R41 has the record written once for an event,
after all of its effects, and R57 has that of a placement follow the catalog record write. The model's choice: a frame end
that places a hold and changes the stream's state or freeze mode makes one write, that of the placement, with all that
the frame end changed (DEDUCED, log 37). -/
def State.noteFrameEnd (m : State) (s : StreamId) (before : State) : State :=
  let old := before.stream s
  if m.reports[s].length = before.reports[s].length then m.noteStream old s
  else
    let report := m.statusReport s (raisesStream old.state (m.stream s).state) true
    { m with reports := m.reports.set s (m.reports[s].dropLast ++ [report]) }

/-- next_cue_addr: the address of the cue that the walker holds READY, valid and of origin LINK (R106). -/
def Walker.nextCueAddr (w : Walker) : Option Word :=
  match w.state with
  | .ready ⟨a, .link, some _⟩ => some a
  | _ => none

/-- The port status record of port `p` is written, while the device is RUNNING or STOPPING (R106); it reports that many
PORT notices (R159). -/
def State.writePortStatus (m : State) (p : PortId) (notices : Nat) : State :=
  if m.ctl.device.serves then
    m.issue (portClient p)
      { purpose := .portStatus notices, addr := m.dir.statusAddr.toNat + 512 + p.val * 64,
        access := .write (portStatusBytes (m.port p) (m.walker p).nextCueAddr m.now) }
  else m

/-- STREAM_STATUS_WRITE_COMPLETE (R159): the notice that the record reports is raised. -/
def execStreamStatusWriteComplete (s : StreamId) (m : State) : Host.Outcome State Fault Refusal :=
  match m.oldest (streamClient s) with
  | none => .next m
  | some g =>
    match g.burst.purpose with
    | .streamStatus notice =>
      let m := m.complete (streamClient s)
      .next (if notice then m.raise .stream else m)
    | _ => .next m

/-- PORT_STATUS_WRITE_COMPLETE (R159): the notices that the record reports are raised. -/
def execPortStatusWriteComplete (p : PortId) (m : State) : Host.Outcome State Fault Refusal :=
  match m.oldest (portClient p) with
  | none => .next m
  | some g =>
    match g.burst.purpose with
    | .portStatus notices => .next ((m.complete (portClient p)).raiseTimes .port notices)
    | _ => .next m

/-- COUNT_RECORD_WRITE_COMPLETE (R165, last column): the mirror write is over, or a further write is issued. -/
def execCountRecordWriteComplete (m : State) : Host.Outcome State Fault Refusal :=
  match m.oldest noticeClient with
  | none => .next m
  | some _ =>
    let m := m.complete noticeClient
    match m.notice.mirror with
    | .issued => .next { m with notice := { m.notice with mirror := .none } }
    | .issuedAgain =>
      .next ({ m with notice := { m.notice with mirror := .waiting } }.issue noticeClient m.countRecordBurst)
    | .none | .waiting => .next m

end Sys2Proof.Machine
end

