-- ==== Sys2Proof/Machine/RequestUnit.lean ====
section
/-! DEFINITION. The request unit (spec/06): answers, sweeps and their phases, and the taking of a slot. The owners'
decisions stand with their owners. -/

namespace Sys2Proof.Machine

/-! ## Answers (R128, R133) -/

/-- The address of a slot (R118). -/
def State.slotAddr (m : State) (n : SlotId) : Nat := m.dir.boardAddr.toNat + n.val * 128

/-- The answer write of a slot: the whole 128 bytes in one burst (R128). -/
def State.answerBurst (m : State) (n : SlotId) (r : Request) (ans : Answer) : Burst :=
  { purpose := .answerWrite n, addr := m.slotAddr n, access := .write (answerBytes r ans m.now) }

/-- An owner reports the answer of slot `n`: the entry becomes ANSWERING and the answer write is issued (R128); a report
for a slot whose entry is not WAITING is discarded (R133). -/
def State.report (m : State) (n : SlotId) (ans : Answer) : State :=
  match m.req.inFlight[n] with
  | none => m
  | some e =>
    match e.phase with
    | .answering => m
    | .waiting =>
      (m.modReq fun u => { u with inFlight := u.inFlight.set n (some { e with phase := .answering }) }).issue
        requestClient (m.answerBurst n e.request ans)

/-- The answer of a request that some block holds, if it holds one. -/
def State.reportHeld (m : State) (n : Option SlotId) (ans : Answer) : State :=
  match n with
  | none => m
  | some n => m.report n ans

/-- The stream controllers drop the requests they hold (R134, R49). -/
def Stream.dropRequests (t : Stream) : Stream := { t with waitingStop := none, waitingHold := none }

/-- The output ports drop the requests they hold (R134, R115). -/
def Port.dropRequests (q : Port) : Port := { q with splice := none, waiting := none }

/-- Every WAITING entry is answered REFUSED with ABORTED, in slot order, and the owners drop the requests they hold
(R134). Every request that an owner holds is WAITING. -/
def State.abortWaiting (m : State) : State :=
  let m := allSlots.foldl (fun m n => m.report n (.refused .aborted)) m
  { m with streams := m.streams.map Stream.dropRequests, ports := m.ports.map Port.dropRequests }

/-- The end of a pending splice by an abort is shown in the port status record of its port (R106, R110). -/
def State.noteDropped (before : Vector Port 4) (m : State) : State :=
  allPorts.foldl (fun m p => if before[p].splice.isSome then m.writePortStatus p 0 else m) m

/-- The request unit is quiet: no sweep in progress and the in-flight set empty (R134). -/
def RequestUnit.isQuiet (u : RequestUnit) : Bool := u.sweep == .idle && u.inFlight.all (·.isNone)

/-! ## Sweeps (R120 to R124) -/

/-- The return-ticket read of position (s, i): the word at 0x3C of its catalog record (R62, R184). -/
def State.returnBurst (m : State) (s : StreamId) (i : BankIx) : Burst :=
  { purpose := .returnRead s i, addr := m.dir.catalogAddr.toNat + s.val * 512 + i.val * 64 + 0x3C, access := .read 4 }

/-- The return reads of a sweep: the records that are HELD or RECLAIMED at its start (R62). -/
def State.returnBursts (m : State) : List Burst :=
  (allPositions.filter fun q => (m.bank q.1 q.2).catalog != .idle).map fun q => m.returnBurst q.1 q.2

/-- The board read that begins at slot `2k`: two slots, or the last slot of an odd board alone (R123, log 20). -/
def State.boardBurst (m : State) (k : Nat) : Burst :=
  { purpose := .boardRead (2 * k), addr := m.dir.boardAddr.toNat + 256 * k,
    access := .read (if 2 * k + 1 < m.dir.slotCount.toNat then 256 else 128) }

/-- The board reads of a sweep, in ascending slot order (R123). -/
def State.boardBursts (m : State) : List Burst :=
  (List.range ((m.dir.slotCount.toNat + 1) / 2)).map m.boardBurst

/-- Phase BOARD begins: the whole board is read (R122, R123), into a board copy that is empty and with next slot 0, which is
the model's choice (DESIGN CHOICE, unsafe, log 44). -/
def State.beginBoard (m : State) : State :=
  (m.modReq fun u => { u with sweep := .board, board := [], nextSlot := 0 }).issueAll requestClient m.boardBursts

/-- A sweep begins in phase RETURNS; with no record to read the phase ends at once (R120, R122). -/
def State.beginSweep (m : State) : State :=
  let m := m.modReq fun u => { u with sweep := .returns, sweepPending := false }
  if m.returnBursts.isEmpty then m.beginBoard else m.issueAll requestClient m.returnBursts

/-- The sweep ends: at a halt every WAITING entry is aborted (R134); otherwise a pending sweep begins at once (R121). The
spec does not say what the board copy and next slot hold from then on (R119): that they keep what they held until the
next phase BOARD begins is the model's choice (DESIGN CHOICE, unsafe, log 44). -/
def State.endSweep (m : State) : State :=
  let m := m.modReq fun u => { u with sweep := .idle }
  if m.req.halting then m.abortWaiting.noteDropped m.ports
  else if m.req.sweepPending then m.beginSweep
  else m

/-- A sweep trigger reaches the request unit (R120): in RUNNING it begins a sweep or is owed as one further sweep; in
every other state, and while halting, it is ignored (R120, R134). -/
def State.sweepTrigger (m : State) : State :=
  if m.ctl.device = .running ∧ m.req.halting = false then
    if m.req.sweep = .idle then m.beginSweep else m.modReq fun u => { u with sweepPending := true }
  else m

/-- A slot of the board copy is taken when it shows POSTED and was not in flight at its read (R124). -/
def BoardSlot.takeable (b : BoardSlot) : Bool := b.state.toNat == slotPosted && !b.inFlight

/-- The first slot from number `start` on that is taken, the list beginning at slot `n`. -/
def firstTakeable (start : Nat) : Nat → List BoardSlot → Option Nat
  | _, [] => none
  | n, b :: rest => if decide (start ≤ n) && b.takeable then some n else firstTakeable start (n + 1) rest

/-- Phase TAKING moves on: slots that are not taken are passed over (R124), and the sweep ends after the last slot
(R121); at a halt it takes no further slot (R134). A GRAB that waits for its catalog write holds it (R127). -/
def State.advance (m : State) : State :=
  if m.req.sweep = .taking ∧ m.req.grabWait = none then
    if m.req.halting then m.endSweep
    else
      match firstTakeable m.req.nextSlot 0 m.req.board with
      | some n => m.modReq fun u => { u with nextSlot := n }
      | none => (m.modReq fun u => { u with nextSlot := u.board.length }).endSweep
  else m

/-- The slot whose turn it is in phase TAKING, with its request (R124); at a halt no further slot is taken (R134). -/
def State.turn (m : State) : Option (SlotId × Request) :=
  if m.req.sweep = .taking ∧ m.req.grabWait = none ∧ m.req.halting = false then
    match m.req.board[m.req.nextSlot]? with
    | none => none
    | some b =>
      if h : m.req.nextSlot < 32 then if b.takeable then some (⟨m.req.nextSlot, h⟩, b.request) else none else none
  else none

/-- The TAKEN write of a slot: the state word alone (R125, R183). -/
def State.takenBurst (m : State) (n : SlotId) : Burst :=
  { purpose := .takenWrite n, addr := m.slotAddr n, access := .write (leBytes 4 slotTaken) }

/-- Slot `n` is taken: the TAKEN write is issued and the request enters the in-flight set WAITING (R125). -/
def State.markTaken (m : State) (n : SlotId) (r : Request) : State :=
  (m.modReq fun u =>
    { u with inFlight := u.inFlight.set n (some ⟨r, r.owner, .waiting⟩), nextSlot := n.val + 1 }).issue
    requestClient (m.takenBurst n)

/-- The taking of the slot on turn when its kind field names `kind` (`none`: no kind): it is marked TAKEN, decided, and
the sweep moves on (R124 to R127). A command for another kind than the slot's finds no such step (log 1). -/
def State.take (m : State) (kind : Option RequestKind) (decision : SlotId → Request → State → State) : State :=
  match m.turn with
  | none => m
  | some (n, r) =>
    if RequestKind.ofCode r.kind = kind then (decision n r (m.markTaken n r)).advance else m

/-- The decision of a request for a stream, or BAD_TARGET (R125). -/
def forStream (f : SlotId → StreamId → Request → State → State) (n : SlotId) (r : Request) (m : State) : State :=
  if h : r.target.toNat < 8 then f n ⟨r.target.toNat, h⟩ r m else m.report n (.refused .badTarget)

/-- The decision of a request for a port, or BAD_TARGET (R125). -/
def forPort (f : SlotId → PortId → Request → State → State) (n : SlotId) (r : Request) (m : State) : State :=
  if h : r.target.toNat < 4 then f n ⟨r.target.toNat, h⟩ r m else m.report n (.refused .badTarget)

/-! ## Meanings -/

/-- SWEEP_TIMER_EXPIRY (R120): the timer runs free, its next expiry one period after this one. -/
def execSweepTimerExpiry (m : State) : Host.Outcome State Fault Refusal :=
  match m.req.sweepTimer with
  | none => .next m
  | some due =>
    let m := m.reach due
    let period := BitVec.ofNat 64 (m.dir.sweepPeriod.toNat * 125)
    .next ((m.modReq fun u => { u with sweepTimer := some (due + period) }).sweepTrigger)

/-- A return read or board read is outstanding at the request unit. -/
def Purpose.isReturnRead : Purpose → Bool
  | .returnRead _ _ => true
  | _ => false

/-- A board read. -/
def Purpose.isBoardRead : Purpose → Bool
  | .boardRead _ => true
  | _ => false

/-- The board copy takes the slots of a completed burst; after the last burst phase TAKING begins with slot 0 (R123). At
a halt the copies are discarded and the sweep ends (R134). -/
def State.boardArrived (m : State) (g : Granted) : State :=
  let last := !(m.client requestClient).outstanding Purpose.isBoardRead
  if m.req.halting then (if last then m.endSweep else m)
  else
    let m := m.modReq fun u => { u with board := u.board ++ decodeSlots g.data g.marks }
    if last then (m.modReq fun u => { u with sweep := .taking, nextSlot := 0 }).advance else m

/-- BOARD_READ_COMPLETE (R123): the request unit's oldest granted burst, a board read, completes. -/
def execBoardReadComplete (m : State) : Host.Outcome State Fault Refusal :=
  match m.oldest requestClient with
  | none => .next m
  | some g =>
    match g.burst.purpose with
    | .boardRead _ => .next ((m.complete requestClient).boardArrived g)
    | _ => .next m

/-- BAD_KIND (R125): a slot whose kind names no request is marked TAKEN and refused with BAD_KIND. -/
def execBadKind (m : State) : Host.Outcome State Fault Refusal :=
  .next (m.take none fun n _ m => m.report n (.refused .badKind))

/-- NOP (R132): DONE at taking, result words 0 to 5 echo args 0 to 5. -/
def execNop (m : State) : Host.Outcome State Fault Refusal :=
  .next (m.take (some .nop) fun n r m => m.report n (.done r.args.toList))

/-- ANSWER_WRITE_COMPLETE (R129): the slot leaves the in-flight set and ANSWERED is raised. -/
def execAnswerWriteComplete (m : State) : Host.Outcome State Fault Refusal :=
  match m.oldest requestClient with
  | none => .next m
  | some g =>
    match g.burst.purpose with
    | .answerWrite n =>
      .next (((m.complete requestClient).modReq fun u => { u with inFlight := u.inFlight.set n none }).raise .answered)
    | _ => .next m

end Sys2Proof.Machine
end

