-- ==== Sys2Proof/Machine/Publication.lean ====
section
/-! DEFINITION. Publication and host holds (spec/03): the publish policies, placements, the catalog records and what
their writes bring, GRAB, deadlines and expiry, returns, and the reclaim at halt. -/

namespace Sys2Proof.Machine

/-! ## Catalog records (R55 to R57) -/

/-- The address of catalog record `i` of stream `s` (R55). -/
def State.catalogAddr (m : State) (s : StreamId) (i : BankIx) : Nat :=
  m.dir.catalogAddr.toNat + s.val * 512 + i.val * 64

/-- The device-written bytes of a catalog record as the image, the position's catalog state and a ticket give them (R50,
R56). -/
def State.catalogRecord (m : State) (s : StreamId) (i : BankIx) (ticket : Half) : List Byte :=
  catalogBytes (m.bank s i).catalog ticket (m.image s i) (m.bx.addr s i) (m.bx.geom s)

/-- The catalog record write of an event other than adoption: 60 bytes, the ticket the position's last ticket (R56,
R184). -/
def State.writeCatalog (m : State) (s : StreamId) (i : BankIx) (ev : CatalogEvent) : State :=
  m.issue publicationClient
    { purpose := .catalogWrite s i ev, addr := m.catalogAddr s i,
      access := .write (m.catalogRecord s i (m.bank s i).lastTicket) }

/-- The catalog record write of a hold event, and the status record write that is to follow it (R56, R57). -/
def State.writeHoldEvent (m : State) (s : StreamId) (i : BankIx) (ev : CatalogEvent) : State :=
  (m.writeCatalog s i ev).noteHold s

/-- The adoption write of a record: 64 bytes, with ticket and return_ticket 0 (R68, R184). -/
def State.writeCatalogAdopted (m : State) (s : StreamId) (i : BankIx) (ans : Option AdoptionAnswer) : State :=
  m.issue publicationClient
    { purpose := .catalogWrite s i (.adoption ans), addr := m.catalogAddr s i,
      access := .write (m.catalogRecord s i 0 ++ zeros 4) }

/-! ## Placements (R14, R52, R59, R60) -/

/-- The hold quota of a stream (R27, R53). -/
def State.holdLimit (m : State) (s : StreamId) : Nat :=
  match (m.stream s).config with
  | none => 0
  | some c => c.holdLimit.toNat

/-- The deadline of a hold placed now: none when hold_time is 0, else hold_time × 1000 µs from now (R60). -/
def State.holdDeadline (m : State) (s : StreamId) : Option Dword :=
  match (m.stream s).config with
  | none => none
  | some c => if c.holdTime = 0 then none else some (m.now + BitVec.ofNat 64 (c.holdTime.toNat * 1000))

/-- The catalog image after a placement on a bank (R52, R56). -/
def CatalogImage.ofPlacement (b : Bank) (reason : HoldReason) : CatalogImage :=
  { reason := some reason, seq := b.seq, captureTime := b.captureTime, lines := b.lines, flags := b.flags,
    reclaimCause := .none }

/-- The accepted placement of a hold on bank (s, i): the hold, the holds count and the image change in one step (R14,
R52, R54). -/
def State.placeHold (m : State) (s : StreamId) (i : BankIx) (reason : HoldReason) : State :=
  let deadline := m.holdDeadline s
  let b := m.bank s i
  let m := m.modBx fun x => x.modBank s i fun b => b.place deadline reason
  let m := m.modPublish s fun q => { q with holds := q.holds + 1 }
  m.modImage s i fun _ => CatalogImage.ofPlacement b reason

/-- publish_missed is counted (R52, R67). -/
def State.missPublish (m : State) (s : StreamId) : State :=
  m.modStreamCounters s fun c => { c with publishMissed := c.publishMissed + 1 }

/-- A frame selected for publication is lent if the quota and the bank exchange allow it (R52, R53). -/
def State.lend (m : State) (s : StreamId) (i : BankIx) : State :=
  if (m.publish s).holds ≠ m.holdLimit s ∧ m.bx.placeable s i = true then
    (m.placeHold s i .published).writeHoldEvent s i .published
  else m.missPublish s

/-- A frame in bank (s, i) has been selected: its placement is asked for if the quota allows it (R52). With `late` it is
on its way when the step ends, otherwise it reaches the bank exchange at once (R14, log 9). -/
def State.askPlacement (m : State) (s : StreamId) (i : BankIx) (late : Bool) : State :=
  if late = true ∧ (m.publish s).holds ≠ m.holdLimit s then m.modPublish s fun q => { q with offer := some i }
  else m.lend s i

/-- The placement that is on its way for stream `s`, if there is one, reaches the bank exchange (R14, R52). -/
def State.placeOffer (m : State) (s : StreamId) : State :=
  match (m.publish s).offer with
  | none => m
  | some i => (m.modPublish s fun q => { q with offer := none }).lend s i

/-- The publication unit's decision at the completion of a frame in bank (s, i) (R51). -/
def State.publishFrame (m : State) (s : StreamId) (i : BankIx) (late : Bool) : State :=
  match (m.stream s).config with
  | none => m
  | some c =>
    match c.publishPolicy with
    | .none => m
    | .every => m.askPlacement s i late
    | .nth =>
      if (m.publish s).nth + 1 = c.publishN.toNat then
        (m.modPublish s fun q => { q with nth := 0 }).askPlacement s i late
      else m.modPublish s fun q => { q with nth := q.nth + 1 }

/-! ## The end of a hold (R15, R61, R63, R66) -/

/-- The end of the hold on bank (s, i): the holds count is lowered in the same step (R15, R50). -/
def State.endHold (m : State) (s : StreamId) (i : BankIx) (c : CatalogState) : State :=
  (m.modBx fun x => x.endHold (m.isOff s) s i c).modPublish s fun q => { q with holds := q.holds - 1 }

/-- A reclaim, at expiry or at halt: the record is written RECLAIMED with its cause (R61, R66). -/
def State.reclaim (m : State) (s : StreamId) (i : BankIx) (cause : ReclaimCause) (ev : CatalogEvent) : State :=
  ((m.endHold s i .reclaimed).modImage s i fun im => { im with reclaimCause := cause }).writeHoldEvent s i ev

/-- A return examined for position (s, i) (R63). -/
def State.examineReturn (m : State) (s : StreamId) (i : BankIx) (ticket : Half) : State :=
  if ticket = (m.bank s i).lastTicket then
    match (m.bank s i).catalog with
    | .held => (m.endHold s i .idle).writeHoldEvent s i .returned
    | .reclaimed =>
      (m.modBx fun x => x.modBank s i fun b => { b with catalog := .idle }).writeCatalog s i .lateReturn
    | .idle => m
  else m

/-! ## GRAB (R58, R59) -/

/-- The result words of a GRAB (R59): bank index, ticket, seq low and high, bank address. -/
def State.grabResults (m : State) (s : StreamId) (i : BankIx) : List Word :=
  let b := m.bank s i
  [BitVec.ofNat 32 i.val, b.lastTicket.setWidth 32, b.seq.setWidth 32, (b.seq >>> 32).setWidth 32,
    BitVec.ofNat 32 (m.bx.addr s i)]

/-- The decision of a GRAB for stream `s` from slot `n` (R58, R59). -/
def decideGrab (n : SlotId) (s : StreamId) (_r : Request) (m : State) : State :=
  if m.isOff s then m.report n (.refused .badState)
  else if (m.publish s).holds = m.holdLimit s then m.report n (.refused .quota)
  else
    match m.bx.newestWith s fun i => (m.bank s i).hold.isNone with
    | none => m.report n (.refused .noFrame)
    | some i =>
      let m := m.placeHold s i .grabbed
      (m.writeHoldEvent s i (.grabbed n (m.grabResults s i))).modReq fun u => { u with grabWait := some n }

/-! ## What a completed catalog write brings (R57, R67, R189) -/

/-- A report of the publication unit to the stream controller for its counters (R67). -/
def State.reportHold (m : State) (s : StreamId) (ev : CatalogEvent) : State :=
  match ev with
  | .published =>
    (m.modStreamCounters s fun c => { c with published := c.published + 1 }).modStream s fun t =>
      { t with placements := t.placements + 1 }
  | .grabbed _ _ => m.modStream s fun t => { t with placements := t.placements + 1 }
  | .expired | .haltReclaimed => m.modStreamCounters s fun c => { c with reclaimed := c.reclaimed + 1 }
  | .lateReturn => m.modStreamCounters s fun c => { c with lateReturns := c.lateReturns + 1 }
  | .returned | .adoption _ => m

/-- The further effects of an event whose catalog record write has completed (R57): the report and the stream status
write, the notice, the GRAB answer, the adoption's answer (R68). -/
def State.catalogWritten (m : State) (s : StreamId) (ev : CatalogEvent) : State :=
  let m := m.reportHold s ev
  match ev with
  | .adoption none => m
  | .adoption (some a) => m.report a.slot (.done [a.stride, a.footprint])
  | .published => (m.raise .published).holdEventWritten s
  | .grabbed n results =>
    (((m.report n (.done results)).holdEventWritten s).modReq fun u => { u with grabWait := none }).advance
  | .returned => m.holdEventWritten s
  | .expired | .haltReclaimed => (m.raise .reclaimed).holdEventWritten s
  | .lateReturn => m

/-! ## Meanings -/

/-- GRAB (R58, R59): a taken GRAB lends the newest unheld VALID bank, or is refused. A placement on its way reaches the
bank exchange after it (R52, log 9). -/
def execGrab (m : State) : Host.Outcome State Fault Refusal :=
  .next (m.take (some .grab) (forStream fun n s r m => (decideGrab n s r m).placeOffer s))

/-- CATALOG_WRITE_COMPLETE (R57): the publication unit's oldest granted burst completes. -/
def execCatalogWriteComplete (m : State) : Host.Outcome State Fault Refusal :=
  match m.oldest publicationClient with
  | none => .next m
  | some g =>
    match g.burst.purpose with
    | .catalogWrite s _ ev => .next ((m.complete publicationClient).catalogWritten s ev)
    | _ => .next m

/-- Every return read done: the sweep goes on to phase BOARD, or ends at a halt (R122, R134). -/
def State.returnsDone (m : State) : State :=
  if (m.client requestClient).outstanding Purpose.isReturnRead then m
  else if m.req.halting then m.endSweep
  else m.beginBoard

/-- RETURN_TICKET_READ_COMPLETE (R63): the value read, the low 16 bits of the word (R184), is examined; at a halt it is
discarded (R134). -/
def execReturnTicketReadComplete (m : State) : Host.Outcome State Fault Refusal :=
  match m.oldest requestClient with
  | none => .next m
  | some g =>
    match g.burst.purpose with
    | .returnRead s i =>
      let m := m.complete requestClient
      .next (if m.req.halting then m.returnsDone
        else (m.examineReturn s i (fieldHalf g.data 0)).returnsDone)
    | _ => .next m

/-- HOLD_EXPIRY (R61): the timebase reaches the deadline of the hold on bank (s, i). -/
def execHoldExpiry (s : StreamId) (i : BankIx) (m : State) : Host.Outcome State Fault Refusal :=
  match (m.bank s i).hold with
  | none => .next m
  | some h =>
    match h.deadline with
    | none => .next m
    | some due => .next ((m.reach due).reclaim s i .expiry .expired)

/-- Every stream and every port is OFF and the request unit is quiet (R148). -/
def State.closed (m : State) : Bool :=
  allStreams.all m.isOff && allPorts.all (fun p => (m.port p).state == .off) && m.req.isQuiet

/-- The positions whose catalog state is HELD, in ascending order of stream and bank (R66). -/
def State.heldPositions (m : State) : List (StreamId × BankIx) :=
  allPositions.filter fun q => (m.bank q.1 q.2).catalog == .held

/-- The holds on a list of positions are reclaimed one after the other with cause HALT (R66). -/
def State.reclaimAll (m : State) (l : List (StreamId × BankIx)) : State :=
  l.foldl (fun m q => m.reclaim q.1 q.2 .halt .haltReclaimed) m

/-- HALT_RECLAIM (R66, R148): in STOPPING, once everything is closed, every HELD hold is reclaimed in order. -/
def execHaltReclaim (m : State) : Host.Outcome State Fault Refusal :=
  if m.ctl.device = .stopping ∧ m.closed = true then
    .next (m.reclaimAll m.heldPositions)
  else .next m

end Sys2Proof.Machine
end

