-- ==== Sys2Proof/Machine/StreamController.lean ====
section
/-! DEFINITION. Streams and capture ports (spec/02, spec/09 section 9.4): the fate of a frame, the loss timer, lines and
the line buffer, adoption, and the stream requests. -/

namespace Sys2Proof.Machine

/-! ## Breaks, completions and entry to OFF -/

/-- A microsecond count of a millisecond field. -/
def millis (t : Half) : Dword := BitVec.ofNat 64 (t.toNat * 1000)

/-- The loss timer's period from now (R26). -/
def State.lossExpiry (m : State) (s : StreamId) : Option Dword :=
  match (m.stream s).config with
  | none => none
  | some c => some (m.now + millis c.lossTimeout)

/-- The frame of the line being received is over: what is still to come of the line is discarded (R8, R23). -/
def CapturePort.abandonLine (q : CapturePort) : CapturePort :=
  { q with openLine := q.openLine.map fun l => { l with entry := none, discarded := true } }

/-- A capture port whose line buffer is empty; what is still to come of the line being received is discarded (R8, R25,
R175). -/
def CapturePort.emptied (q : CapturePort) : CapturePort :=
  { q.abandonLine with buffer := Vector.replicate 2 none }

/-- The port withdraws every burst in its queue and both entries become FREE (R174, R175). -/
def State.dropLines (m : State) (s : StreamId) : State :=
  (m.modArb fun a => a.withdraw (.capture s) fun _ => true).modCapture s CapturePort.emptied

/-- A PENDING freeze becomes ACTIVE when the frame it waited for has ended, and its HOLD_STREAM is answered DONE (R33,
R34, R38). -/
def State.settleFreeze (m : State) (s : StreamId) : State :=
  if (m.stream s).freeze = .pending then
    (m.reportHeld (m.stream s).waitingHold (.done [])).modStream s fun t =>
      { t with freeze := .active, waitingHold := none }
  else m

/-- The frame in FILLING bank (s, i) is broken with a cause (R10, R34). -/
def State.breakFrame (m : State) (s : StreamId) (i : BankIx) (cause : BreakCause) : State :=
  let m := (m.modBx fun x => x.modBank s i Bank.clear).dropLines s
  let m := m.modStream s fun t =>
    { t with counters := { t.counters with broken := t.counters.broken + 1 }, lastBroken := cause, lineCount := 0,
             lineFlags := .clear }
  if (m.stream s).state = .draining then m else m.settleFreeze s

/-- The frame in FILLING bank (s, i) completes: VALID, written counted, offered for publication, and a PENDING freeze
becomes ACTIVE (R9, R33, R51). A line still being received is not part of it (log 7). -/
def State.completeFrame (m : State) (s : StreamId) (i : BankIx) (late : Bool) : State :=
  let t := m.stream s
  let m := (m.modBx fun x => x.modBank s i fun b => b.fill t.lineCount t.lineFlags).modCapture s CapturePort.abandonLine
  let m := m.modStream s fun t =>
    { t with counters := { t.counters with written := t.counters.written + 1 }, lineCount := 0, lineFlags := .clear }
  (m.publishFrame s i late).settleFreeze s

/-- Stream `s` enters OFF (R37, R17): timer stopped, freeze NONE, the bank set retired, and what its capture port held
is discarded (R23). A STOP_STREAM that waited is answered DONE (R36). -/
def State.enterOff (m : State) (s : StreamId) : State :=
  let m := m.reportHeld (m.stream s).waitingStop (.done [])
  let m := m.modStream s fun t =>
    { t with state := .off, lossTimer := none, freeze := .none, waitingStop := none }
  let m := (m.dropLines s).modCapture s fun q => { q with waiting := [] }
  m.modBx fun x => x.retireAll s

/-- A break of the frame in bank (s, i); a DRAINING stream then enters OFF (R34, R36). -/
def State.breakAndDrain (m : State) (s : StreamId) (i : BankIx) (cause : BreakCause) : State :=
  let draining := (m.stream s).state = .draining
  let m := m.breakFrame s i cause
  if draining then m.enterOff s else m

/-! ## Frame starts (R31, R32, R36) -/

/-- The classification of a counted frame (R32). -/
def State.classify (m : State) (s : StreamId) (time : Dword) : State :=
  let t := m.stream s
  if t.freeze = .active then m.modStreamCounters s fun c => { c with frozen := c.frozen + 1 }
  else
    match t.config with
    | none => m
    | some cfg =>
      if t.decimation + 1 < cfg.captureDivisor.toNat then
        (m.modStreamCounters s fun c => { c with decimated := c.decimated + 1 }).modStream s fun t =>
          { t with decimation := t.decimation + 1 }
      else
        let m := m.modStream s fun t => { t with decimation := 0 }
        match m.bx.writerChoice s with
        | none => m.modStreamCounters s fun c => { c with dropped := c.dropped + 1 }
        | some i =>
          (m.modBx fun x => x.modBank s i fun b => b.grant t.seq time).modStream s fun t =>
            { t with lineCount := 0, lineFlags := .clear }

/-- A frame start taken in SEEKING, LIVE or LOST (R31), with the capture time its port latched. -/
def State.countFrame (m : State) (s : StreamId) (time : Dword) : State :=
  let m := m.modStream s fun t =>
    { t with seq := t.seq + 1, counters := { t.counters with arrived := t.counters.arrived + 1 }, state := .live,
             lossTimer := m.lossExpiry s }
  let m :=
    match m.filling s with
    | none => m
    | some i => m.breakFrame s i .interrupted
  m.classify s time

/-- A frame start presented to the stream controller (R31, R36); an OFF stream's link events are discarded (R23). A
placement on its way reaches the bank exchange after the frame's writer request (R14, R52, log 9). -/
def State.presentFrameStart (m : State) (s : StreamId) (time : Dword) : State :=
  let before := m.stream s
  match before.state with
  | .off => m
  | .draining =>
    match m.filling s with
    | none => m
    | some i => ((m.breakFrame s i .drainCut).enterOff s).noteStream before s
  | .seeking | .live | .lost => ((m.countFrame s time).noteStream before s).placeOffer s

/-! ## Frame ends (R33, R36) -/

/-- Row count of the stream's frames. -/
def State.frameHeight (m : State) (s : StreamId) : Nat := (m.bx.geom s).height.toNat

/-- A frame end presented to the stream controller (R33, R36). The placement of a frame that completes in DRAINING is
never late: it is offered before the stream reaches OFF (R51). -/
def State.presentFrameEnd (m : State) (s : StreamId) (late : Bool) : State :=
  let before := m.stream s
  if before.state = .off then m
  else
    match m.filling s with
    | none => m
    | some i =>
      let u :=
        if before.lineCount.toNat < m.frameHeight s then m.breakFrame s i .short
        else m.completeFrame s i (late && before.state != .draining)
      (if before.state = .draining then u.enterOff s else u).noteFrameEnd s m

/-- The frame start at the front of what waits is presented, with the capture time latched at its marker (R23). -/
def State.presentWaitingStart (m : State) (s : StreamId) : State :=
  match (m.cport s).waiting with
  | .frameStart t :: rest => (m.modCapture s fun q => { q with waiting := rest }).presentFrameStart s t
  | .frameEnd :: _ | [] => m

/-- The events of a link are presented in order (R23): before a further event of the link is, the frame starts that still
wait are, unless a frame end among them still waits for its lines (log 8). -/
def State.presentStarts (m : State) (s : StreamId) : State :=
  if m.isOff s = true ∨ .frameEnd ∈ (m.cport s).waiting then m
  else (m.cport s).waiting.foldl (fun m _ => m.presentWaitingStart s) m

/-! ## Lines (R24, R25, R175, R176) -/

/-- The address of row `r` of bank (s, i) (R1). -/
def State.rowAddr (m : State) (s : StreamId) (i : BankIx) (r : Nat) : Nat :=
  m.bx.addr s i + r * (m.bx.geom s).pitch.toNat

/-- A capture burst of a line: some bytes at an offset of its row (R175). -/
def State.lineBurst (m : State) (s : StreamId) (i : BankIx) (r off : Nat) (bytes : List Byte) : Burst :=
  { purpose := .captureLine r, addr := m.rowAddr s i r + off, access := .write bytes }

/-- The first FREE entry of the line buffer (R175). -/
def CapturePort.freeEntry (q : CapturePort) : Option (Fin 2) :=
  if q.buffer[(0 : Fin 2)].isNone then some 0 else if q.buffer[(1 : Fin 2)].isNone then some 1 else none

/-- Both entries are FREE (R175). -/
def CapturePort.allFree (q : CapturePort) : Bool :=
  q.buffer[(0 : Fin 2)].isNone && q.buffer[(1 : Fin 2)].isNone

/-- Pixels of line `l` in entry `e` of the frame in bank (s, i) arrive: those within width are placed in the entry, and
a write burst is issued for each 256-byte piece that is whole now (R175). -/
def State.storePixels (m : State) (s : StreamId) (i : BankIx) (e : Fin 2) (l : BufferedLine) (bytes : List Byte) : State :=
  let data := l.rest ++ bytes.take ((m.bx.geom s).rowBytes - (l.restOffset + l.rest.length))
  let whole := data.length / Config.burstBytes
  let piece := fun k => m.lineBurst s i l.row (l.restOffset + k * Config.burstBytes)
    ((data.drop (k * Config.burstBytes)).take Config.burstBytes)
  let line := { l with
    rest := data.drop (whole * Config.burstBytes), restOffset := l.restOffset + whole * Config.burstBytes }
  (m.issueAll (.capture s) ((List.range whole).map piece)).modCapture s fun q =>
    { q with buffer := q.buffer.set e (some line) }

/-- The first `n` pixels of line `r`, r < height, of the frame in bank (s, i) arrive; the line takes entry `e` (R175).
-/
def State.takeEntry (m : State) (s : StreamId) (i : BankIx) (e : Fin 2) (r : Nat) (bytes : List Byte) (n : Nat) : State :=
  (m.storePixels s i e { row := r, rest := [], restOffset := 0, ended := false } bytes).modCapture s fun q =>
    { q with openLine := some ⟨n, some e, false⟩ }

/-- The port keeps in mind that the line being received is discarded (R23). -/
def State.discardLine (m : State) (s : StreamId) : State :=
  m.modCapture s fun q => { q with openLine := some ⟨0, none, true⟩ }

/-- A line that the port has begun to receive and does not discard. -/
def CapturePort.receiving (q : CapturePort) : Bool :=
  match q.openLine with
  | none => false
  | some l => !l.discarded

/-- The whole pixels among the bytes that arrive for stream `s`: how many, and their bytes (log 6). -/
def State.wholePixels (m : State) (s : StreamId) (bytes : List Byte) : Nat × List Byte :=
  let bpp := (m.bx.geom s).format.bytesPerPixel
  (bytes.length / bpp, bytes.take (bytes.length / bpp * bpp))

/-- The first pixels of a line arrive at a stream that is not OFF (R23 to R25, R175, R176). The line is discarded while
the stream has no FILLING bank or a frame end waits (R23). -/
def State.startLine (m : State) (s : StreamId) (bytes : List Byte) : State :=
  let before := m.stream s
  let q := m.cport s
  match m.filling s with
  | none => m.discardLine s
  | some i =>
    let (n, px) := m.wholePixels s bytes
    if q.waiting ≠ [] then m.discardLine s
    else if n = 0 then m
    else if m.frameHeight s ≤ before.lineCount.toNat then
      m.modCapture s fun q => { q with openLine := some ⟨n, none, false⟩ }
    else
      match q.freeEntry with
      | some e => m.takeEntry s i e before.lineCount.toNat px n
      | none => ((m.discardLine s).breakAndDrain s i .overrun).noteStream before s

/-- Further pixels of the line being received, `n` of which came before, arrive: they join its entry, if it has one that
still holds it (R175). -/
def State.continueLine (m : State) (s : StreamId) (n : Nat) (entry : Option (Fin 2)) (bytes : List Byte) : State :=
  match m.filling s with
  | none => m.discardLine s
  | some i =>
    let (k, px) := m.wholePixels s bytes
    let m := match entry with
      | none => m
      | some e => match (m.cport s).buffer[e] with
        | none => m
        | some l => m.storePixels s i e l px
    m.modCapture s fun q => { q with openLine := some ⟨n + k, entry, false⟩ }

/-- Pixels of a line arrive (R23, R175): the first of a line, before which the frame starts that still wait are
presented, or further ones of the line being received. An OFF stream discards them, and so does a port that discards
their line. -/
def State.receivePixels (m : State) (s : StreamId) (bytes : List Byte) : State :=
  if m.isOff s = true then m
  else
    match (m.cport s).openLine with
    | none =>
      let m := m.presentStarts s
      if m.isOff s = true then m else m.startLine s bytes
    | some ⟨n, entry, false⟩ => m.continueLine s n entry bytes
    | some ⟨_, _, true⟩ => m

/-- A burst of line `r` is still in the port's queue. -/
def Client.lineQueued (c : Client) (r : Nat) : Bool := c.queue.any fun b => b.purpose == .captureLine r

/-- The line in entry `e` has ended: its remainder is issued, and the entry is FREE once no burst of the line is left to
be granted (R175). -/
def State.endEntry (m : State) (s : StreamId) (i : BankIx) (e : Fin 2) : State :=
  match (m.cport s).buffer[e] with
  | none => m
  | some l =>
    let m := if l.rest.isEmpty then m
      else m.issue (.capture s) (m.lineBurst s i l.row l.restOffset l.rest)
    let left := (m.client (.capture s)).lineQueued l.row
    m.modCapture s fun q =>
      { q with buffer := q.buffer.set e (if left then some { l with rest := [], ended := true } else none) }

/-- The flags that a line of `n` pixels sets (R24). -/
def lineFlags (g : Geometry) (r n : Nat) (f : FrameFlags) : FrameFlags :=
  if g.height.toNat ≤ r then { f with truncated := true }
  else if g.width.toNat < n then { f with truncated := true }
  else if n < g.width.toNat then { f with narrow := true }
  else f

/-- The line counts, saturating at 65535, and sets the flags by its number and its `n` pixels (R24). -/
def State.countLine (m : State) (s : StreamId) (n : Nat) : State :=
  m.modStream s fun t =>
    { t with lineCount := if t.lineCount.toNat = 65535 then t.lineCount else t.lineCount + 1,
             lineFlags := lineFlags (m.bx.geom s) t.lineCount.toNat n t.lineFlags }

/-- A line of 0 pixels arrives (R24, log 33); it is discarded like any line in OFF, with nothing FILLING and while a frame
end waits (R23). -/
def State.emptyLine (m : State) (s : StreamId) : State :=
  if m.isOff s = true ∨ (m.cport s).waiting ≠ [] then m
  else
    match m.filling s with
    | none => m
    | some _ => m.countLine s 0

/-- A line end marker arrives (R24). It ends the line being received; with no first pixel before it, it ends a line of 0
pixels (log 33), before which the frame starts that still wait are presented (R23). The model's choice: a line that a
frame end marker came into is written and counted as any other (log 36). -/
def State.endLine (m : State) (s : StreamId) : State :=
  if m.isOff s = true then m
  else
    match m.filling s, (m.cport s).openLine with
    | _, none => (m.presentStarts s).emptyLine s
    | some i, some ⟨n, e, false⟩ =>
      let m := match e with | none => m | some e => m.endEntry s i e
      (m.modCapture s fun q => { q with openLine := none }).countLine s n
    | some _, some ⟨_, _, true⟩ | none, some _ => m.modCapture s fun q => { q with openLine := none }

/-- A frame start marker opens a new frame: a line discarded before it that had no end marker is over (log 7). -/
def CapturePort.forgetDiscarded (q : CapturePort) : CapturePort := if q.receiving then q else { q with openLine := none }

/-! ## Capture-link meanings -/

/-- A frame start marker is decoded, and its capture time latched (R23). The frame start is presented at once, after
those that still wait, or it waits behind a frame end. -/
def State.decodeFrameStart (m : State) (s : StreamId) : State :=
  let m := m.presentStarts s
  if m.isOff s = true then m
  else if (m.cport s).waiting = [] then (m.presentFrameStart s m.now).modCapture s CapturePort.forgetDiscarded
  else m.modCapture s fun q => { q.forgetDiscarded with waiting := q.waiting ++ [.frameStart m.now] }

/-- FRAME_START (R31): a frame start marker is decoded, or, with `waited`, the frame start at the front of what waits is
presented: the frame end before it has been, and any event may have come between the two (R13, R23, log 8). -/
def execFrameStart (f : FrameStart) (m : State) : Host.Outcome State Fault Refusal :=
  if m.isOff f.stream = true then .next m
  else .next (if f.waited then m.presentWaitingStart f.stream else m.decodeFrameStart f.stream)

/-- LINE_START (R175): the first pixel of a line arrives, with the pixels received so far; for a line being received,
its further pixels (log 6). -/
def execLineStart (s : StreamId) (pixels : List Byte) (m : State) : Host.Outcome State Fault Refusal :=
  .next (m.receivePixels s pixels)

/-- LINE_END (R24). -/
def execLineEnd (s : StreamId) (m : State) : Host.Outcome State Fault Refusal :=
  .next (m.endLine s)

/-- FRAME_END_MARKER (R23): the frame end waits until every line received before it has been written. The model's
choice: of a line still being received it waits for the entry alone, so a line that has none does not hold it back (log
36). -/
def execFrameEndMarker (s : StreamId) (m : State) : Host.Outcome State Fault Refusal :=
  if m.isOff s = true then .next m
  else .next (m.modCapture s fun q => { q with waiting := q.waiting ++ [.frameEnd] })

/-- FRAME_END (R23, R33): a waiting frame end is presented once both line buffer entries are FREE; a frame start behind it
waits on for its own step. `e.late` is which of the two orders of R14 comes about: the placement of a frame
selected for publication reaches the bank exchange in this step, or it is on its way when the step ends (log 9). -/
def execFrameEnd (e : FrameEnd) (m : State) : Host.Outcome State Fault Refusal :=
  let s := e.stream
  match (m.cport s).waiting with
  | .frameEnd :: rest =>
    if (m.cport s).allFree = true then
      .next ((m.modCapture s fun q => { q with waiting := rest }).presentFrameEnd s e.late)
    else .next m
  | _ => .next m

/-- LOSS_TIMER_EXPIRY (R35). A placement on its way has reached the bank exchange by the end of the step (log 9). -/
def execLossTimerExpiry (s : StreamId) (m : State) : Host.Outcome State Fault Refusal :=
  match (m.stream s).lossTimer with
  | none => .next m
  | some due =>
    let before := m.stream s
    let m := m.reach due
    match before.state with
    | .off | .lost => .next m
    | .draining =>
      match m.filling s with
      | none => .next m
      | some i => .next ((m.breakAndDrain s i .lost).noteStream before s)
    | .seeking | .live =>
      let m := match m.filling s with
        | none => m
        | some i => m.breakFrame s i .lost
      .next (((m.modStream s fun t => { t with state := .lost, lossTimer := none }).noteStream before s).placeOffer s)

/-! ## Adoption (R42, R43) -/

/-- The address of a stream record (R42). -/
def State.streamRecordAddr (m : State) (s : StreamId) : Nat := m.dir.streamTableAddr.toNat + s.val * 64

/-- The decision of an ADOPT_STREAM at taking (R42). -/
def decideAdopt (n : SlotId) (s : StreamId) (_r : Request) (m : State) : State :=
  if m.isOff s = true ∧ (m.stream s).adoption = .none then
    (m.modStream s fun t => { t with adoption := .reading n }).issue (streamClient s)
      { purpose := .streamRecordRead, addr := m.streamRecordAddr s, access := .read 64 }
  else m.report n (.refused .badState)

/-- The geometry of a pending adoption. -/
def Stream.pendingGeometry (t : Stream) : Option Geometry :=
  match t.adoption with
  | .pending _ c => some c.geometry
  | _ => none

/-- The footprint that another stream's adoption must not overlap: that of a pending record, or that of a stream that is
not OFF or has a bank carrying a host hold (R29). -/
def State.guardedFootprint (m : State) (s : StreamId) : Option Region :=
  match (m.stream s).pendingGeometry with
  | some g => some g.footprint
  | none => if m.isOff s = false ∨ m.bx.anyHold s = true then (m.bx.geometry[s]).map Geometry.footprint else none

/-- The footprint of stream `s` overlaps a directory region or another stream's footprint (R29). -/
def State.overlapsRegions (m : State) (s : StreamId) (r : Region) : Bool :=
  m.dir.regions.any (r.overlaps ·)
    || allStreams.any fun t => t != s && (match m.guardedFootprint t with | none => false | some q => r.overlaps q)

/-- The checks on a stream record in order; the first failure decides (R42). -/
def State.checkRecord (m : State) (s : StreamId) (bs : List Byte) : RefusalCode ⊕ StreamConfig :=
  match decodeStreamRecord bs with
  | none => .inl .badField
  | some c =>
    let r := c.geometry.footprint
    if Config.memorySize < r.base + r.size then .inl .range
    else if m.overlapsRegions s r = true then .inl .overlap
    else if m.bx.anyHold s = true then .inl .holdsRemain
    else .inr c

/-- A pending adoption may take effect: no port claims a bank of `s`, nor a bank of an OFF stream whose retained banks
lie within the pending footprint (R43), and no bank of `s` carries a hold (R16). -/
def State.adoptionFree (m : State) (s : StreamId) (r : Region) : Bool :=
  !m.bx.anyClaim s && !m.bx.anyHold s
    && allStreams.all fun t => !(m.isOff t && m.bx.anyClaim t && m.bx.retainedWithin t r)

/-- The catalog records 0 to bank_count − 1 of the new bank set are written, in ascending order; the last carries the
adoption's answer (R68). -/
def State.writeAdopted (m : State) (s : StreamId) (g : Geometry) (ans : AdoptionAnswer) : State :=
  (allBanks.filter g.inSet).foldl
    (fun m i => m.writeCatalogAdopted s i (if i.val + 1 = g.bankCount.toNat then some ans else none)) m

/-- The adoption of stream `s` with a validated record takes effect (R43, R16, R68). -/
def State.adopt (m : State) (s : StreamId) (n : SlotId) (c : StreamConfig) : State :=
  let before := m.stream s
  let g := c.geometry
  let m := m.modBx fun x => x.adopt s g
  let m := m.modPublish s fun _ => .reset
  let m := { m with pub := { m.pub with images := m.pub.images.set s (Vector.replicate 8 .reset) } }
  let m := m.modStream s fun t =>
    { t with
      state := .seeking, freeze := .none, config := some c, seq := 0, decimation := 0, counters := .zero,
      placements := 0, lastBroken := .none, lossTimer := some (m.now + millis c.lossTimeout), adoption := .none,
      lineCount := 0, lineFlags := .clear }
  let ans : AdoptionAnswer :=
    { slot := n, stride := BitVec.ofNat 32 g.stride, footprint := BitVec.ofNat 32 g.footprint.size }
  (m.writeAdopted s g ans).noteStream before s

/-- The pending adoption of `s` takes effect if it may (R43). -/
def State.tryAdopt (m : State) (s : StreamId) : State :=
  match (m.stream s).adoption with
  | .pending n c => if m.adoptionFree s c.geometry.footprint = true then m.adopt s n c else m
  | _ => m

/-- ADOPT_STREAM (R42). -/
def execAdoptStream (m : State) : Host.Outcome State Fault Refusal :=
  .next (m.take (some .adoptStream) (forStream decideAdopt))

/-- STREAM_RECORD_READ_COMPLETE (R42, R43): the record is checked; one that passes makes the adoption pending, and it
takes effect at once if nothing stands in its way. With no read awaited (a halt discarded the adoption, R147) the
completion is ignored. -/
def execStreamRecordReadComplete (s : StreamId) (m : State) : Host.Outcome State Fault Refusal :=
  match m.oldest (streamClient s) with
  | none => .next m
  | some g =>
    match g.burst.purpose with
    | .streamRecordRead =>
      let m := m.complete (streamClient s)
      match (m.stream s).adoption with
      | .reading n =>
        match m.checkRecord s g.data with
        | .inl code => .next ((m.modStream s fun t => { t with adoption := .none }).report n (.refused code))
        | .inr c => .next ((m.modStream s fun t => { t with adoption := .pending n c }).tryAdopt s)
      | _ => .next m
    | _ => .next m

/-- ADOPTION_TAKES_EFFECT (R43): the claims that a pending adoption waited for have ended. -/
def execAdoptionTakesEffect (s : StreamId) (m : State) : Host.Outcome State Fault Refusal :=
  .next (m.tryAdopt s)

/-! ## The other stream requests (R44 to R47) -/

/-- A stream that is neither OFF nor DRAINING is stopped (R44, R49): DRAINING if a bank is FILLING, else OFF. -/
def State.stopFrames (m : State) (s : StreamId) : State :=
  match m.filling s with
  | some _ => m.modStream s fun t => { t with state := .draining, freeze := .none }
  | none => m.enterOff s

/-- The decision of a STOP_STREAM (R44). A placement on its way reaches the bank exchange first (R51, log 9). -/
def decideStop (n : SlotId) (s : StreamId) (_r : Request) (m : State) : State :=
  let before := m.stream s
  if before.state = .off ∨ before.state = .draining then m.report n (.refused .badState)
  else
    let m := (m.placeOffer s).reportHeld before.waitingHold (.refused .aborted)
    let m := m.modStream s fun t => { t with waitingHold := none, waitingStop := some n }
    (m.stopFrames s).noteStream before s

/-- The decision of a HOLD_STREAM (R45). -/
def decideHold (n : SlotId) (s : StreamId) (_r : Request) (m : State) : State :=
  let before := m.stream s
  if before.state = .off ∨ before.state = .draining ∨ before.freeze ≠ .none then m.report n (.refused .badState)
  else
    (match m.filling s with
      | some _ => m.modStream s fun t => { t with freeze := .pending, waitingHold := some n }
      | none => (m.modStream s fun t => { t with freeze := .active }).report n (.done [])).noteStream before s

/-- The decision of a RESUME_STREAM (R46). -/
def decideResume (n : SlotId) (s : StreamId) (_r : Request) (m : State) : State :=
  let before := m.stream s
  if before.freeze = .none then m.report n (.refused .badState)
  else
    let m := m.reportHeld before.waitingHold (.refused .aborted)
    let m := m.modStream s fun t => { t with freeze := .none, waitingHold := none }
    (m.report n (.done [])).noteStream before s

/-- The ten counters in the order of R39 (R47). -/
def StreamCounters.toList (c : StreamCounters) : List Word :=
  [c.arrived, c.written, c.decimated, c.frozen, c.dropped, c.broken, c.published, c.publishMissed, c.reclaimed,
    c.lateReturns]

/-- The counters after a clear: all 0, but arrived 1 while a bank is FILLING (R47). -/
def State.clearedCounters (m : State) (s : StreamId) : StreamCounters :=
  { StreamCounters.zero with arrived := if (m.filling s).isSome then 1 else 0 }

/-- The decision of a QUERY_STREAM (R47). -/
def decideQueryStream (n : SlotId) (s : StreamId) (r : Request) (m : State) : State :=
  let results := (m.stream s).counters.toList
  let cleared := m.clearedCounters s
  let m := if r.flag then m.modStreamCounters s fun _ => cleared else m
  (m.writeStreamStatus s false).report n (.done results)

/-- STOP_STREAM (R44). -/
def execStopStream (m : State) : Host.Outcome State Fault Refusal :=
  .next (m.take (some .stopStream) (forStream decideStop))

/-- HOLD_STREAM (R45). -/
def execHoldStream (m : State) : Host.Outcome State Fault Refusal :=
  .next (m.take (some .holdStream) (forStream decideHold))

/-- RESUME_STREAM (R46). -/
def execResumeStream (m : State) : Host.Outcome State Fault Refusal :=
  .next (m.take (some .resumeStream) (forStream decideResume))

/-- QUERY_STREAM (R47). -/
def execQueryStream (m : State) : Host.Outcome State Fault Refusal :=
  .next (m.take (some .queryStream) (forStream decideQueryStream))

/-! ## Halt (R49) -/

/-- A stream at the beginning of an orderly halt (R49, R147): a pending adoption is discarded, and the stream is stopped
as by a STOP_STREAM without a request to answer. The requests it holds it drops when the request unit aborts them
(R134). A placement on its way reaches the bank exchange first (R51, log 9). -/
def State.haltStream (m : State) (s : StreamId) : State :=
  let before := m.stream s
  let m := m.modStream s fun t => { t with adoption := .none }
  match before.state with
  | .off | .draining => m
  | .seeking | .live | .lost => ((m.placeOffer s).stopFrames s).noteStream before s

end Sys2Proof.Machine
end

