-- ==== Sys2Proof/Machine/CueWalker.lean ====
section
/-! DEFINITION. The cue walkers (spec/04): fetches, skips, heads, what a walker indicates to its port, and clearing. The
completions that reach the port stand with the output ports. -/

namespace Sys2Proof.Machine

/-- The read of the cue record at an address (R76). -/
def cueBurst (addr : Word) : Burst := { purpose := .cueRead, addr := addr.toNat, access := .read 32 }

/-- A fetch begins (R75, R76): its read is issued now, or when the discarded read that is outstanding completes. -/
def State.beginFetch (m : State) (p : PortId) (addr : Word) (o : Origin) : State :=
  let waits := (m.walker p).discardedRead
  let m := m.modWalker p fun w => { w with state := .fetching, fetchAddr := addr, fetchOrigin := o }
  if waits then m else m.issue (portClient p) (cueBurst addr)

/-- The fetch of a link, or IDLE with end noted when it is END (R75, R78, R79). -/
def State.followLink (m : State) (p : PortId) (link : Option Word) : State :=
  match link with
  | none => m.modWalker p fun w => { w with state := .idle true }
  | some a => m.beginFetch p a .link

/-- A fetch in progress is cancelled: its read, if it is the one outstanding, is marked discarded (R87, R89). -/
def Walker.cancel (w : Walker) : Walker :=
  match w.state with
  | .fetching => { w with discardedRead := true }
  | .idle _ | .ready _ => w

/-- The walker is cleared at its port's entry to OFF (R89). -/
def Walker.cleared (w : Walker) : Walker := { w.cancel with state := .idle false, hops := 0 }

/-- The walker discards what it holds and begins the fetch of a head, hop count 0 (R86, R87). -/
def State.fetchHead (m : State) (p : PortId) (addr : Word) : State :=
  (m.modWalker p fun w => w.cleared).beginFetch p addr .head

/-- The prefetch when a cue becomes current (R78). -/
def State.prefetch (m : State) (p : PortId) (link : Option Word) : State :=
  (m.modWalker p fun w => { w with state := .idle false, hops := 0 }).followLink p link

/-- What the walker indicates to its port (R85). -/
def Walker.indication (w : Walker) : Indication :=
  match w.state with
  | .ready ⟨a, .link, some c⟩ => .cue a c
  | .ready ⟨a, .head, some c⟩ => .head a c
  | .ready ⟨a, _, none⟩ => .fault a
  | .fetching => .notYet
  | .idle true => .atEnd
  | .idle false => .nothing

/-- A cue is skippable: SKIP_IF_LOST is set, its source is a stream, and that stream is not LIVE (R80, R81). -/
def State.skippable (m : State) (c : Cue) : Bool :=
  c.skipIfLost && (match c.source with
    | .background => false
    | .stream s => (m.stream s).state != .live)

/-- A cue read that is the current one completes next: the port's oldest granted burst is a cue read and no discarded
read is outstanding (R76). -/
def State.cueReadDue (m : State) (p : PortId) : Option Granted :=
  match m.oldest (portClient p) with
  | none => none
  | some g => if g.burst.purpose = .cueRead then some g else none

/-- The read of the walker's fetch in progress, of the given origin, completes next (R76). -/
def State.fetchDue (m : State) (p : PortId) (o : Origin) : Option Granted :=
  let w := m.walker p
  if w.state = .fetching ∧ w.fetchOrigin = o ∧ w.discardedRead = false then m.cueReadDue p else none

/-- The decision on a cue fetched by a link (R79, R81, R82). -/
def State.linkFetched (m : State) (p : PortId) (addr : Word) (bs : List Byte) : State :=
  match decodeCue bs with
  | none => m.modWalker p fun w => { w with state := .ready ⟨addr, .link, none⟩, hops := 0 }
  | some c =>
    if m.skippable c = true ∧ (m.walker p).hops + 1 < 8 then
      let m := m.modPortCounters p fun k => { k with skippedCues := k.skippedCues + 1 }
      match c.link with
      | none => m.modWalker p fun w => { w with state := .idle true, hops := 0 }
      | some a => (m.modWalker p fun w => { w with hops := w.hops + 1 }).beginFetch p a .link
    else m.modWalker p fun w => { w with state := .ready ⟨addr, .link, some c⟩, hops := 0 }

/-- FETCH_COMPLETION (R79): the current read of a fetch of origin LINK completes. -/
def execFetchCompletion (p : PortId) (m : State) : Host.Outcome State Fault Refusal :=
  match m.fetchDue p .link with
  | some g => .next ((m.complete (portClient p)).linkFetched p (m.walker p).fetchAddr g.data)
  | none => .next m

/-- DISCARDED_READ_COMPLETION (R76): the completion of a cancelled read is ignored, the mark is cleared, and the read of
a fetch that waited for it is issued. -/
def execDiscardedReadCompletion (p : PortId) (m : State) : Host.Outcome State Fault Refusal :=
  match m.cueReadDue p, (m.walker p).discardedRead with
  | some _, true =>
    let m := (m.complete (portClient p)).modWalker p fun w => { w with discardedRead := false }
    match (m.walker p).state with
    | .fetching => .next (m.issue (portClient p) (cueBurst (m.walker p).fetchAddr))
    | .idle _ | .ready _ => .next m
  | _, _ => .next m

end Sys2Proof.Machine
end

