-- ==== Sys2Proof/Machine/OutputPort.lean ====
section
/-! DEFINITION. The output ports (spec/05, spec/09 section 9.5): the output frame start, the shown frame, scan-out, heads,
and the port requests. -/

namespace Sys2Proof.Machine

/-- Black, (16, 128, 128) (R93). -/
def blackColour : Colour := ⟨16, 128, 128⟩

/-! ## Scan-out (R101 to R104, R177) -/

/-- What the claimed bank gives of a raster: rows min(h, H), pixels a row min(w, W) (R103). -/
def Port.shownRows (q : Port) (b : ClaimedBank) : Nat :=
  match q.raster with
  | none => 0
  | some r => min b.height.toNat r.height.toNat

/-- Pixels of a bank row that are shown (R103). -/
def Port.shownPixels (q : Port) (b : ClaimedBank) : Nat :=
  match q.raster with
  | none => 0
  | some r => min b.width.toNat r.width.toNat

/-- Lines of an output frame (R92). -/
def Port.frameLines (q : Port) : Nat :=
  match q.raster with
  | none => 0
  | some r => r.height.toNat

/-- The reads of one row: its shown bytes in pieces of 256, the last shorter (R103, R177). -/
def Port.rowBursts (q : Port) (b : ClaimedBank) (row : Nat) : List Burst :=
  let n := q.shownPixels b * b.format.bytesPerPixel
  (List.range ((n + 255) / 256)).map fun k =>
    { purpose := .scanRow row, addr := b.addr.toNat + row * b.pitch.toNat + k * 256,
      access := .read (min 256 (n - k * 256)) }

/-- The first FREE entry of the output buffer (R177). -/
def Port.freeEntry (q : Port) : Option (Fin 2) :=
  if q.buffer[(0 : Fin 2)] = .free then some 0 else if q.buffer[(1 : Fin 2)] = .free then some 1 else none

/-- The reads of the next row that still needs them are issued when an entry is FREE (R103, R177). -/
def State.issueRow (m : State) (p : PortId) : State :=
  let q := m.port p
  match q.shown, q.freeEntry with
  | .bank b _, some e =>
    if q.nextRow < q.shownRows b then
      (m.modPort p fun q =>
        { q with buffer := q.buffer.set e (.reading q.nextRow []), nextRow := q.nextRow + 1 }).issueAll (.scan p)
        (q.rowBursts b q.nextRow)
    else m
  | _, _ => m

/-- What is left of the previous frame's reads is withdrawn, or its data discarded, and the buffer is empty (R104,
R174). -/
def State.dropScan (m : State) (p : PortId) : State :=
  (m.modArb fun a => (a.withdraw (.scan p) fun _ => true).discard (.scan p) fun _ => true).modPort p fun q =>
    { q with buffer := Vector.replicate 2 .free, linkLine := 0, nextRow := 0, underran := false }

/-- A frame begins on the link: the previous frame's reads are dropped, and for a bank the reads of rows 0 and 1 are
issued (R103, R104, R177). -/
def State.beginFrame (m : State) (p : PortId) (f : ShownFrame) : State :=
  let m := (m.dropScan p).modPort p fun q => { q with shown := f }
  (m.issueRow p).issueRow p

/-! ## The port status record and OFF (R106, R113) -/

/-- A port's answer to the request it holds until a later state. -/
def State.reportWaiting (m : State) (w : Option WaitingRequest) (start stop : Answer) : State :=
  match w with
  | none => m
  | some (.startPort n) => m.report n start
  | some (.stopPort n) => m.report n stop

/-- The port enters OFF (R113): a pending splice is answered ABORTED, a waiting STOP_PORT DONE, a waiting START_PORT as
the caller says. -/
def State.closePort (m : State) (p : PortId) (start : Answer) : State :=
  let q := m.port p
  let m := m.reportHeld (q.splice.map (·.slot)) (.refused .aborted)
  let m := m.reportWaiting q.waiting start (.done [])
  let m := (m.releaseClaim p).dropScan p
  let m := m.modWalker p Walker.cleared
  let m := m.modPort p fun q =>
    { q with
      state := .off, frameTimer := none, current := none, dwell := 0, claimed := none, shownSeq := 0, splice := none,
      waiting := none, shown := .idle }
  m.writePortStatus p 0

/-! ## The output frame start (R94 to R100) -/

/-- A cue becomes current (R98): the copy is taken whole, the dwell set, cue_changes counted and the prefetch begun. -/
def State.makeCurrent (m : State) (p : PortId) (addr : Word) (c : Cue) : State :=
  let m := m.modPort p fun q =>
    { q with
      current := some ⟨addr, c⟩, dwell := c.dwell,
      counters := { q.counters with cueChanges := q.counters.cueChanges + 1 } }
  m.prefetch p c.link

/-- The head of the pending splice becomes current: the port is SHOWING and the splice answered DONE (R94, R96, R97). -/
def State.takeHead (m : State) (p : PortId) (addr : Word) (c : Cue) : State :=
  let m := m.reportHeld ((m.port p).splice.map (·.slot)) (.done [])
  (m.modPort p fun q => { q with state := .showing, splice := none }).makeCurrent p addr c

/-- The port enters STALLED on a faulty next cue (R96, R84). -/
def State.stall (m : State) (p : PortId) (addr : Word) : State :=
  (m.modPort p fun q =>
    { q with state := .stalled, faultCause := .badCue, faultAddr := addr, current := none }).modWalker p fun w =>
    { w with state := .idle false }

/-- The dwell of the current cue has ended in SHOWING (R96). -/
def State.endDwell (m : State) (p : PortId) : State :=
  match (m.walker p).indication with
  | .cue a c => m.makeCurrent p a c
  | .head a c => m.takeHead p a c
  | .fault a => m.stall p a
  | .notYet =>
    m.modPort p fun q =>
      { q with dwell := 1, counters := { q.counters with lateCues := q.counters.lateCues + 1 } }
  | .atEnd => m.modPort p fun q => { q with state := .parked }
  | .nothing => m

/-- The second step of an output frame start: the dwell in SHOWING (R95), a head, cue or fault in PARKED and STALLED
(R97). -/
def State.advanceChain (m : State) (p : PortId) : State :=
  match (m.port p).state with
  | .showing =>
    let m := m.modPort p fun q => { q with dwell := if q.dwell = 0 then 0 else q.dwell - 1 }
    if (m.port p).dwell = 0 then m.endDwell p else m
  | .parked =>
    match (m.walker p).indication with
    | .head a c => m.takeHead p a c
    | .cue a c => (m.modPort p fun q => { q with state := .showing }).makeCurrent p a c
    | .fault a => m.stall p a
    | .notYet | .atEnd | .nothing => m
  | .stalled =>
    match (m.walker p).indication with
    | .head a c => m.takeHead p a c
    | .cue _ _ | .fault _ | .notYet | .atEnd | .nothing => m
  | .off | .starting | .stopping => m

/-- The first two steps of an output frame start in a showing state: a NEXT_FRAME splice whose head is READY is taken up
and the second step is not taken; otherwise the chain advances (R94, R95). -/
def State.chainStep (m : State) (p : PortId) : State :=
  match (m.port p).splice, (m.walker p).indication with
  | some ⟨.nextFrame, _, _⟩, .head a c => m.takeHead p a c
  | _, _ => m.advanceChain p

/-- Whether a port whose current cue names stream `s` sends a claim request for it (R99). -/
def Stream.shows (t : Stream) : Bool :=
  match t.state with
  | .live => true
  | .seeking => t.freeze == .active
  | .lost => t.freeze == .active || (match t.config with | none => false | some c => c.onLoss == .last)
  | .draining | .off => false

/-- One more frame shown, counted `shown`, `frames` and one of the other three (R100, R105). -/
def State.countShown (m : State) (p : PortId) (f : PortCounters → PortCounters) : State :=
  m.modPort p fun q =>
    { q with counters := f { q.counters with shown := q.counters.shown + 1 }, frames := q.frames + 1 }

/-- A frame that is fill or black: shown_seq 0, counted fill (R100). -/
def State.showFill (m : State) (p : PortId) (f : ShownFrame) : State :=
  let m := m.modPort p fun q => { q with claimed := none, shownSeq := 0 }
  (m.countShown p fun k => { k with fill := k.fill + 1 }).beginFrame p f

/-- The bank exchange's answer to the port's claim request decides the frame (R100). -/
def State.showAnswer (m : State) (p : PortId) (fill : Colour) (ans : ClaimAnswer) : State :=
  match ans with
  | .noFrame => m.showFill p (.fill fill)
  | .fresh b =>
    let m := m.modPort p fun q => { q with claimed := some b, shownSeq := b.seq }
    (m.countShown p fun k => { k with fresh := k.fresh + 1 }).beginFrame p (.bank b fill)
  | .repeated =>
    let m := m.countShown p fun k => { k with repeated := k.repeated + 1 }
    match (m.port p).claimed with
    | none => m.beginFrame p .black
    | some b => m.beginFrame p (.bank b fill)

/-- The third step of an output frame start: the frame that is shown (R99, R100). -/
def State.chooseFrame (m : State) (p : PortId) : State :=
  match (m.port p).state, (m.port p).current with
  | .stalled, _ | _, none => (m.releaseClaim p).showFill p .black
  | _, some c =>
    match c.cue.source with
    | .background => (m.releaseClaim p).showFill p (.fill c.cue.fill)
    | .stream s =>
      if (m.stream s).shows = true then
        let (m, ans) := m.claimRequest p s
        m.showAnswer p c.cue.fill ans
      else (m.releaseClaim p).showFill p (.fill c.cue.fill)

/-- The PORT notices that the steps of one output frame start bring (R93, R98): entry to PARKED, entry to STALLED, and a
NOTIFY cue that became current, seen as a change of cue_changes. -/
def portNotices (before after : Port) : Nat :=
  (if after.state = .parked ∧ before.state ≠ .parked then 1 else 0)
    + (if after.state = .stalled ∧ before.state ≠ .stalled then 1 else 0)
    + (if after.counters.cueChanges ≠ before.counters.cueChanges then
        (match after.current with | none => 0 | some c => if c.cue.notify then 1 else 0)
      else 0)

/-- The status write after all of an output frame start's work, if the state, the current cue or the pending splice has
changed (R98, R106). -/
def State.notePort (before : Port) (p : PortId) (m : State) : State :=
  let q := m.port p
  if q.state = before.state ∧ q.counters.cueChanges = before.counters.cueChanges ∧ q.splice = before.splice then m
  else m.writePortStatus p (portNotices before q)

/-- The output frame start in SHOWING, PARKED or STALLED (section 5.3). -/
def State.showingFrame (m : State) (p : PortId) : State :=
  let before := m.port p
  ((m.chainStep p).chooseFrame p).notePort before p

/-- The output frame start in STARTING (R108). -/
def State.startingFrame (m : State) (p : PortId) : State :=
  let before := m.port p
  match (m.walker p).indication with
  | .head a c =>
    let m := m.reportWaiting before.waiting (.done []) (.done [])
    let m := (m.modPort p fun q => { q with state := .showing, waiting := none }).makeCurrent p a c
    (m.chooseFrame p).notePort before p
  | .cue _ _ | .fault _ | .notYet | .atEnd | .nothing => m.beginFrame p .black

/-- OUTPUT_FRAME_START (R92): the frame timer expires. -/
def execOutputFrameStart (p : PortId) (m : State) : Host.Outcome State Fault Refusal :=
  match (m.port p).frameTimer with
  | none => .next m
  | some due =>
    let m := m.reach due
    let m := m.modPort p fun q => { q with frameTimer := q.framePeriod.map fun t => due + t.setWidth 64 }
    match (m.port p).state with
    | .off => .next m
    | .starting => .next (m.startingFrame p)
    | .showing | .parked | .stalled => .next (m.showingFrame p)
    | .stopping => .next (m.closePort p (.refused .aborted))

/-! ## Heads (R86, R87, R108, R110) -/

/-- A valid head is buffered READY with origin HEAD (R86, R87). -/
def State.headReady (m : State) (p : PortId) (addr : Word) (c : Cue) : State :=
  m.modWalker p fun w => { w with state := .ready ⟨addr, .head, some c⟩, hops := 0 }

/-- An invalid head of a START_PORT: the port enters OFF with the fault, and START_PORT is refused with BAD_CUE (R86,
R108). -/
def State.startHeadBad (m : State) (p : PortId) (addr : Word) : State :=
  let m := m.modWalker p fun w => { w with state := .idle false, hops := 0 }
  let m := m.modPort p fun q => { q with faultCause := .badCue, faultAddr := addr }
  m.closePort p (.refused .badCue)

/-- An invalid head of a SPLICE: refused with BAD_CUE, and the walker fetches the current cue's link again (R87,
R110). Where a halt has dropped the splice while its head was being read (R115), the spec does not say what the walker
does: that it fetches the current cue's link here too, with no splice left to refuse and no record written, is the
model's choice (DESIGN CHOICE, unsafe, log 42). -/
def State.spliceHeadBad (m : State) (p : PortId) : State :=
  let q := m.port p
  let m := m.modWalker p fun w => { w with state := .idle false, hops := 0 }
  let m := match q.current with
    | none => m
    | some c => m.followLink p c.cue.link
  match q.splice with
  | none => m
  | some sp =>
    ((m.modPort p fun q => { q with splice := none }).report sp.slot (.refused .badCue)).writePortStatus p 0

/-- HEAD_FETCH_COMPLETION (R86, R87): the current read of a fetch of origin HEAD completes. -/
def execHeadFetchCompletion (p : PortId) (m : State) : Host.Outcome State Fault Refusal :=
  match m.fetchDue p .head with
  | some g =>
    let addr := (m.walker p).fetchAddr
    let m := m.complete (portClient p)
    match decodeCue g.data with
    | some c => .next (m.headReady p addr c)
    | none => if (m.port p).state = .starting then .next (m.startHeadBad p addr) else .next (m.spliceHeadBad p)
  | none => .next m

/-! ## Line buffer events (R104, R177) -/

/-- The row that an entry holds or awaits. -/
def OutputEntry.row : OutputEntry → Option Nat
  | .free => none
  | .reading r _ | .ready r _ => some r

/-- The data an entry holds so far. -/
def OutputEntry.data : OutputEntry → List Byte
  | .free => []
  | .reading _ d | .ready _ d => d

/-- The entry of a row (R177). -/
def Port.entryOf (q : Port) (row : Nat) : Option (Fin 2) :=
  if q.buffer[(0 : Fin 2)].row = some row then some 0
  else if q.buffer[(1 : Fin 2)].row = some row then some 1
  else none

/-- SCAN_READ_COMPLETE (R177): the data of the port's oldest granted scan burst arrives; the entry is READY when the
last burst of its row has completed. Data given up is discarded (R104). -/
def execScanReadComplete (p : PortId) (m : State) : Host.Outcome State Fault Refusal :=
  match m.oldest (.scan p) with
  | none => .next m
  | some g =>
    let m := m.complete (.scan p)
    match g.discarded, g.burst.purpose with
    | false, .scanRow row =>
      match (m.port p).entryOf row with
      | none => .next m
      | some e =>
        let data := ((m.port p).buffer[e]).data ++ g.data
        let more := (m.client (.scan p)).outstanding fun u => u == .scanRow row
        .next (m.modPort p fun q =>
          { q with buffer := q.buffer.set e (if more then .reading row data else .ready row data) })
    | _, _ => .next m

/-- The line at the link shows a row of the claimed bank: line y < min(h, H) of a bank frame (R101, R104). -/
def Port.linkRow (q : Port) : Option ClaimedBank :=
  match q.shown with
  | .bank b _ => if q.linkLine < q.shownRows b then some b else none
  | .idle | .black | .fill _ => none

/-- LINE_UNDERRUN (R104, R177): the link reaches a pixel of its line whose bank data has not arrived. -/
def execLineUnderrun (p : PortId) (m : State) : Host.Outcome State Fault Refusal :=
  let q := m.port p
  match q.linkRow, q.entryOf q.linkLine with
  | some _, some e =>
    match q.buffer[e], q.underran with
    | .reading row _, false =>
      let m := m.modArb fun a =>
        (a.withdraw (.scan p) fun b => b.purpose == .scanRow row).discard (.scan p) fun b => b.purpose == .scanRow row
      .next (m.modPort p fun q =>
        { q with underran := true, counters := { q.counters with underrunLines := q.counters.underrunLines + 1 } })
    | _, _ => .next m
  | _, _ => .next m

/-- The link bytes of fill pixels `x` to `x + n − 1` (R102): luma Y, and Cb on even pixels, Cr on odd. -/
def fillPixels (c : Colour) : Nat → Nat → List Byte
  | _, 0 => []
  | x, n + 1 => c.y :: (if x % 2 = 0 then c.cb else c.cr) :: fillPixels c (x + 1) n

/-- The link bytes of bank pixels (R102): YC16 bytes as they are, Y8 bytes as luma with chroma 128. -/
def bankPixels (f : Format) (data : List Byte) : List Byte :=
  match f with
  | .yc16 => data
  | .y8 => data.flatMap fun y => [y, 128]

/-- The fill colour of what is shown (R101, R93). -/
def ShownFrame.colour : ShownFrame → Colour
  | .idle | .black => blackColour
  | .fill c | .bank _ c => c

/-- The bank data of the line at the link that reached the output buffer in time. -/
def Port.lineData (q : Port) : List Byte :=
  match q.entryOf q.linkLine with
  | none => []
  | some e => q.buffer[e].data

/-- The bytes that the link carries for the line it is at (R101, R102, R104): the bank pixels that are there, and the
fill colour from the first other pixel on. -/
def Port.lineBytes (q : Port) : List Byte :=
  match q.raster with
  | none => []
  | some r =>
    match q.linkRow with
    | none => fillPixels q.shown.colour 0 r.width.toNat
    | some b =>
      let data := q.lineData
      let n := data.length / b.format.bytesPerPixel
      bankPixels b.format (data.take (n * b.format.bytesPerPixel)) ++ fillPixels q.shown.colour n (r.width.toNat - n)

/-- The line at the link may end: it shows no bank row, its row is READY, or it has underrun (R104). -/
def Port.lineMayEnd (q : Port) : Bool :=
  match q.linkRow, q.entryOf q.linkLine with
  | none, _ => true
  | some _, none => q.underran
  | some _, some e => match q.buffer[e] with | .ready _ _ => true | .free | .reading _ _ => q.underran

/-- OUTPUT_LINE_END (R177): the line has been sent; its entry becomes FREE and the reads of the next row are issued. -/
def execOutputLineEnd (p : PortId) (m : State) : Host.Outcome State Fault Refusal :=
  let q := m.port p
  if q.shown ≠ .idle ∧ q.linkLine < q.frameLines ∧ q.lineMayEnd = true then
    let m := { m with out := { m.out with lines := m.out.lines.set p q.lineBytes } }
    let m := m.modPort p fun q =>
      { q with
        buffer := (match q.entryOf q.linkLine with | none => q.buffer | some e => q.buffer.set e .free),
        linkLine := q.linkLine + 1, underran := false }
    .next (m.issueRow p)
  else .next m

/-! ## Port requests (R107, R109, R112, R114) -/

/-- The arguments of START_PORT are in range (R107). -/
def startArgsOk (w h t : Word) : Bool :=
  decide (64 ≤ w.toNat ∧ w.toNat ≤ 2048) && decide (64 ≤ h.toNat ∧ h.toNat ≤ 2048)
    && decide (10000 ≤ t.toNat ∧ t.toNat ≤ 100000)

/-- An accepted START_PORT (R107, R86, R92). -/
def State.acceptStart (m : State) (p : PortId) (n : SlotId) (w h t head : Word) : State :=
  let m := m.modPort p fun q =>
    { q with
      state := .starting, raster := some ⟨w.setWidth 16, h.setWidth 16⟩, framePeriod := some t,
      frameTimer := some (m.now + t.setWidth 64), counters := .zero, frames := 0, faultCause := .none, faultAddr := 0,
      waiting := some (.startPort n) }
  (m.fetchHead p head).writePortStatus p 0

/-- The decision of a START_PORT (R107). -/
def decideStartPort (n : SlotId) (p : PortId) (r : Request) (m : State) : State :=
  let w := r.args[(0 : Fin 6)]
  let h := r.args[(1 : Fin 6)]
  let t := r.args[(2 : Fin 6)]
  let head := r.args[(3 : Fin 6)]
  if (m.port p).state ≠ .off then m.report n (.refused .badState)
  else if startArgsOk w h t = false then m.report n (.refused .badField)
  else if cueAddressOk head.toNat = false then m.report n (.refused .range)
  else m.acceptStart p n w h t head

/-- SHOWING, PARKED and STALLED (R93). -/
def PortState.isShowing : PortState → Bool
  | .showing | .parked | .stalled => true
  | .off | .starting | .stopping => false

/-- The decision of a SPLICE (R109). -/
def decideSplice (n : SlotId) (p : PortId) (r : Request) (m : State) : State :=
  let head := r.args[(0 : Fin 6)]
  let q := m.port p
  if q.state.isShowing = false then m.report n (.refused .badState)
  else if cueAddressOk head.toNat = false then m.report n (.refused .range)
  else
    let m := m.reportHeld (q.splice.map (·.slot)) (.refused .superseded)
    let m := m.modPort p fun q =>
      { q with splice := some ⟨if r.flag then .nextFrame else .cueEnd, head, n⟩ }
    (m.fetchHead p head).writePortStatus p 0

/-- The decision of a STOP_PORT (R112). -/
def decideStopPort (n : SlotId) (p : PortId) (_r : Request) (m : State) : State :=
  match (m.port p).state with
  | .off | .stopping => m.report n (.refused .badState)
  | .starting => (m.closePort p (.refused .aborted)).report n (.done [])
  | .showing | .parked | .stalled =>
    (m.modPort p fun q => { q with state := .stopping, waiting := some (.stopPort n) }).writePortStatus p 0

/-- The eight counters in the order of R105 (R114). -/
def PortCounters.toList (c : PortCounters) : List Word :=
  [c.shown, c.fresh, c.repeated, c.fill, c.cueChanges, c.lateCues, c.skippedCues, c.underrunLines]

/-- The decision of a QUERY_PORT (R114). -/
def decideQueryPort (n : SlotId) (p : PortId) (r : Request) (m : State) : State :=
  let results := (m.port p).counters.toList
  let m := if r.flag then m.modPortCounters p fun _ => .zero else m
  (m.writePortStatus p 0).report n (.done results)

/-- START_PORT (R107). -/
def execStartPort (m : State) : Host.Outcome State Fault Refusal :=
  .next (m.take (some .startPort) (forPort decideStartPort))

/-- SPLICE (R109). -/
def execSplice (m : State) : Host.Outcome State Fault Refusal :=
  .next (m.take (some .splice) (forPort decideSplice))

/-- STOP_PORT (R112). -/
def execStopPort (m : State) : Host.Outcome State Fault Refusal :=
  .next (m.take (some .stopPort) (forPort decideStopPort))

/-- QUERY_PORT (R114). -/
def execQueryPort (m : State) : Host.Outcome State Fault Refusal :=
  .next (m.take (some .queryPort) (forPort decideQueryPort))

/-! ## Halt (R115) -/

/-- A port at the beginning of an orderly halt (R115), as if a STOP_PORT had been taken without a request of its own: a
STARTING port enters OFF, its START_PORT left to the request unit; one in a showing state enters STOPPING. The requests
that it holds it drops when the request unit aborts them (R134); where that has been done already, as `before` shows,
the end of a pending splice is in the record as well (R106). -/
def State.haltPort (m : State) (p : PortId) (before : Port) : State :=
  match before.state with
  | .off => m
  | .starting => (m.modPort p Port.dropRequests).closePort p (.refused .aborted)
  | .showing | .parked | .stalled => (m.modPort p fun q => { q with state := .stopping }).writePortStatus p 0
  | .stopping => if before.splice ≠ (m.port p).splice then m.writePortStatus p 0 else m

end Sys2Proof.Machine
end

