-- ==== Sys2Proof/Machine/MemoryArbiter.lean ====
section
/-! DEFINITION. The memory arbiter and the exchange window (spec/09): the choice of a grant, what a grant does, and host
accesses. -/

namespace Sys2Proof.Machine

/-! ## The choice (R172) -/

/-- The four classes, highest priority first (R170). -/
inductive ClientClass where
  | scan | capture | control | window
  deriving DecidableEq, Repr

/-- The class of a client. -/
def ClientId.cls : ClientId → ClientClass
  | .scan _ => .scan
  | .capture _ => .capture
  | .control _ => .control
  | .window => .window

/-- The first number from `start` upward, wrapping past the highest, that satisfies a test (R172). -/
def firstFrom {n : Nat} (start : Fin n) (f : Fin n → Bool) : Option (Fin n) :=
  match (List.finRange n).find? fun k => decide (start.val ≤ k.val) && f k with
  | some k => some k
  | none => (List.finRange n).find? f

/-- The waiting client of a class that the rotation finds, if the class is waiting (R172). -/
def Arbiter.pick (a : Arbiter) : ClientClass → Option ClientId
  | .scan => (firstFrom a.rotScan fun k => a.scan[k].isWaiting).map .scan
  | .capture => (firstFrom a.rotCapture fun k => a.capture[k].isWaiting).map .capture
  | .control => (firstFrom a.rotControl fun k => a.control[k].isWaiting).map .control
  | .window => if a.window.isWaiting then some .window else none

/-- A class is waiting (R170). -/
def Arbiter.classWaiting (a : Arbiter) (k : ClientClass) : Bool := (a.pick k).isSome

/-- The class that the grant goes to (R172): the control floor, the window floor, then priority. -/
def Arbiter.chooseClass (a : Arbiter) : ClientClass :=
  if a.classWaiting .control = true ∧ a.controlFloor = 7 then .control
  else if a.classWaiting .window = true ∧ a.windowFloor = 15 then .window
  else if a.classWaiting .scan = true then .scan
  else if a.classWaiting .capture = true then .capture
  else if a.classWaiting .control = true then .control
  else .window

/-- The client whose oldest burst is granted, if any client is waiting (R171, R172). -/
def Arbiter.choose (a : Arbiter) : Option ClientId := a.pick a.chooseClass

/-! ## The grant (R169, R172, R173) -/

/-- The number after `k`, wrapping to 0 past the highest (R172). -/
def nextIndex {n : Nat} (k : Fin n) : Fin n := if h : k.val + 1 < n then ⟨k.val + 1, h⟩ else ⟨0, by omega⟩

/-- The rotation pointer of the granted client's class moves to the number after it (R172). -/
def Arbiter.rotate (a : Arbiter) : ClientId → Arbiter
  | .scan k => { a with rotScan := nextIndex k }
  | .capture k => { a with rotCapture := nextIndex k }
  | .control k => { a with rotControl := nextIndex k }
  | .window => a

/-- A floor count after a grant to another class (R173): raised while its class waits, up to its bound, otherwise 0. -/
def floorAfter (waiting : Bool) (count bound : Nat) : Nat := if waiting then min (count + 1) bound else 0

/-- The floor counts after a grant to a class (R173). -/
def Arbiter.countFloors (a : Arbiter) (k : ClientClass) : Arbiter :=
  { a with
    windowFloor := if k = .window then 0 else floorAfter (a.classWaiting .window) a.windowFloor 15
    controlFloor := if k = .control then 0 else floorAfter (a.classWaiting .control) a.controlFloor 7 }

/-- The bytes that a write burst carries at its grant; the count record's are the counts as they stand (R165). -/
def State.writtenBytes (m : State) : Access → Option (List Byte)
  | .read _ => none
  | .write bs => some bs
  | .writeCounts => some (countRecordBytes m.notice.counts)

/-- The bytes that a read burst returns: those exchange memory holds at the grant (R169). -/
def State.readData (m : State) (b : Burst) : List Byte :=
  match b.access with
  | .read n => Memory.readBytes m.mem b.addr n
  | .write _ | .writeCounts => []

/-- The number of bytes of a burst. -/
def Access.size : Access → Nat
  | .read n => n
  | .write bs => bs.length
  | .writeCounts => 64

/-- The in-flight marks of the slots that a board read carries, taken at its grant (R123). -/
def State.boardMarks (m : State) (first len : Nat) : List Bool :=
  (List.range (len / 128)).map fun k =>
    if h : first + k < 32 then (m.req.inFlight[first + k]'h).isSome else false

/-- The marks a grant takes: those of a board read (R123). -/
def State.grantMarks (m : State) (b : Burst) : List Bool :=
  match b.purpose with
  | .boardRead first => m.boardMarks first b.access.size
  | _ => []

/-- Whether a burst's completion is a step of the table. Of the others (capture writes, TAKEN writes, the first twelve
status area writes, host writes) nothing waits for the completion, and it comes with the grant (log 10). -/
def Burst.hasCompletion (b : Burst) : Bool :=
  match b.purpose with
  | .captureLine _ | .takenWrite _ | .statusInit false => false
  | .window => (match b.access with | .read _ => true | .write _ | .writeCounts => false)
  | .scanRow _ | .directoryRead | .statusInit true | .returnRead _ _ | .boardRead _ | .answerWrite _
  | .catalogWrite _ _ _ | .countRecord | .streamRecordRead | .streamStatus _ | .cueRead | .portStatus _ => true

/-- The arbiter's own part of a grant, made on a free port (R169, R171 to R173): the burst leaves its queue, the
rotation and the floors move, and the burst occupies the DRAM port. -/
def Arbiter.grant (a : Arbiter) (c : ClientId) (b : Burst) (g : Granted) : Arbiter :=
  let a' := (a.rotate c).countFloors c.cls
  let x := a'.client c
  let a' := a'.setClient c
    { queue := x.queue.tail, granted := if b.hasCompletion then x.granted ++ [g] else x.granted }
  { a' with port := some ⟨c, b.hasCompletion⟩ }

/-- The last burst of a line in a row of so many bytes has been issued: its end has arrived, or its written part has
been received whole and leaves no remainder (R175). -/
def BufferedLine.allIssued (l : BufferedLine) (rowBytes : Nat) : Bool :=
  l.ended || (l.rest.isEmpty && l.restOffset == rowBytes)

/-- The entry of a line becomes FREE when the last burst of the line has been granted (R175). -/
def State.freeGranted (m : State) (s : StreamId) (r : Nat) : State :=
  if (m.client (.capture s)).lineQueued r then m
  else
    let rowBytes := (m.bx.geom s).rowBytes
    m.modCapture s fun q =>
      { q with buffer := q.buffer.map fun e =>
          match e with
          | some l => if l.row = r ∧ l.allIssued rowBytes = true then none else some l
          | none => none }

/-- What the grant of a burst does at its client (R165, R175, R179). -/
def State.granted (m : State) (c : ClientId) (b : Burst) : State :=
  match c, b.purpose with
  | .capture s, .captureLine r => m.freeGranted s r
  | _, .countRecord => { m with notice := { m.notice with mirror := .issued } }
  | .window, _ =>
    { m with ep := { m.ep with
        heldNudges := m.ep.heldNudges.map (· - 1), windowAhead := m.ep.windowAhead - 1 } }
  | _, _ => m

/-- The grant of the oldest burst `b` of client `c`: it acts on exchange memory whole (R169). -/
def State.grantBurst (m : State) (c : ClientId) (b : Burst) : State :=
  let g : Granted := { burst := b, data := m.readData b, marks := m.grantMarks b, discarded := false }
  let mem := match m.writtenBytes b.access with
    | none => m.mem
    | some bs => Memory.writeBytes m.mem b.addr bs
  { m with arb := m.arb.grant c b g, mem := mem }.granted c b

/-- The burst that occupied the DRAM port has been carried out: the port is free (R171). -/
def Arbiter.freePort (a : Arbiter) : Arbiter := { a with port := none }

/-- BURST_GRANT (R171, R172): the DRAM port is free, or becomes free now because the burst that occupied it has been
carried out, and with the DRAM initialised and a client waiting the arbiter grants one burst (log 10). -/
def execBurstGrant (m : State) : Host.Outcome State Fault Refusal :=
  if m.arb.dramReady = false then .next m
  else
    let m := m.modArb Arbiter.freePort
    match m.arb.choose with
    | none => .next m
    | some c =>
      match (m.client c).queue with
      | [] => .next m
      | b :: _ =>
        if b.addr + b.access.size ≤ Config.memorySize then .next (m.grantBurst c b)
        else .fault .outsideExchangeMemory

/-- DRAM_INIT_COMPLETE (R157, R180): from now on the arbiter grants. -/
def execDramInitComplete (m : State) : Host.Outcome State Fault Refusal :=
  .next (m.modArb fun a => { a with dramReady := true })

/-! ## The exchange window (R178, R179) -/

/-- The pieces of a range, split at each 256-byte boundary, as address and length in ascending order (R178). -/
def windowPieces (addr len : Nat) : List (Nat × Nat) :=
  (List.range ((addr + len + 255) / 256 - addr / 256)).map fun k =>
    let lo := max addr ((addr / 256 + k) * 256)
    let hi := min (addr + len) ((addr / 256 + k + 1) * 256)
    (lo, hi - lo)

/-- The WINDOW bursts of a host access (R178). -/
def windowBursts : WindowAccess → List Burst
  | .read a n => (windowPieces a n).map fun q => { purpose := .window, addr := q.1, access := .read q.2 }
  | .write a bs =>
    (windowPieces a bs.length).map fun q =>
      { purpose := .window, addr := q.1, access := .write ((bs.drop (q.1 - a)).take q.2) }

/-- The range of an access lies inside the window and holds a byte. -/
def windowInside : WindowAccess → Bool
  | .read a n => decide (1 ≤ n ∧ a + n ≤ Config.memorySize)
  | .write a bs => decide (1 ≤ bs.length ∧ a + bs.length ≤ Config.memorySize)

/-- EXCHANGE_WINDOW_ACCESS (R178): split and queued, in every device state. -/
def execExchangeWindowAccess (a : WindowAccess) (m : State) : Host.Outcome State Fault Refusal :=
  if windowInside a = true then .next (m.issueAll .window (windowBursts a))
  else .fault .outsideExchangeWindow

/-- WINDOW_READ_COMPLETE (R178): the data of the oldest granted window read is returned to the host. R178 says that the
data of a host read is returned when the read completes; for a read that was split the model's choice is that the bytes
of each burst are returned at that burst's own completion (DESIGN CHOICE, log 40). -/
def execWindowReadComplete (m : State) : Host.Outcome State Fault Refusal :=
  match m.oldest .window with
  | none => .next m
  | some g =>
    let m := m.complete .window
    .next { m with out := { m.out with windowRead := some (g.burst.addr, g.data) } }

/-- NUDGE_TRIGGER_RELEASE (R179): once every WINDOW burst received before a NUDGE has been granted, its trigger reaches
the request unit. -/
def execNudgeTriggerRelease (m : State) : Host.Outcome State Fault Refusal :=
  match m.ep.heldNudges with
  | 0 :: rest => .next ({ m with ep := { m.ep with heldNudges := rest } }.sweepTrigger)
  | _ => .next m

/-- DIRECTORY_READ_ISSUE (R179, R138): once every WINDOW burst received before the run write has been granted, the
directory read is issued. -/
def execDirectoryReadIssue (m : State) : Host.Outcome State Fault Refusal :=
  if m.ctl.load = .toIssue ∧ m.ep.windowAhead = 0 then
    .next ((m.modCtl fun c => { c with load := .reading }).issue runControlClient
      { purpose := .directoryRead, addr := m.ctl.dirbase.toNat, access := .read 64 })
  else .next m

end Sys2Proof.Machine
end

