-- ==== Sys2Proof/Machine/RunControl.lean ====
section
/-! DEFINITION. Run control, the register window, the timebase reads, the endpoint's interrupt configuration and the
resets (spec/07, spec/08). -/

namespace Sys2Proof.Machine

/-! ## Device states (R141 to R149) -/

/-- Entry to LOADING: the fault cause is NONE and the directory read is due (R142). -/
def State.enterLoading (m : State) : State :=
  m.modCtl fun c => { c with device := .loading, faultCause := .none, load := .toIssue }

/-- The request unit at the entry to STOPPING (R134): timer stopped, sweep-pending clear, halting set; a sweep with
reads outstanding, or with a GRAB in progress, ends later; any other sweep ends at once, and every WAITING entry is
aborted. The board copy and next slot are kept (log 44). -/
def State.haltRequests (m : State) : State :=
  let m := m.modReq fun u => { u with sweepTimer := none, sweepPending := false, halting := true }
  let reads := (m.client requestClient).outstanding fun u => u.isReturnRead || u.isBoardRead
  if reads || m.req.grabWait.isSome then m else (m.modReq fun u => { u with sweep := .idle }).abortWaiting

/-- The eight stream controllers are told of the halt (R147). -/
def State.haltStreams (m : State) : State := allStreams.foldl State.haltStream m

/-- The four output ports are told of the halt (R147); `before` are the ports as the halt found them. -/
def State.haltPorts (before : Vector Port 4) (m : State) : State := allPorts.foldl (fun m p => m.haltPort p before[p]) m

/-- Entry to STOPPING: every block is told (R145, R147). -/
def State.enterStopping (m : State) : State :=
  let m := m.modCtl fun c => { c with device := .stopping }
  m.haltRequests.haltStreams.haltPorts m.ports

/-- The run level is set and the device acts on it (R141, R152). A raise notes how many WINDOW bursts are ahead of it
(R179), but for a raise during LOADING, whose load has begun already (log 16). -/
def State.setRun (m : State) (r : Bool) : State :=
  let raised := r && !m.ctl.run
  let lowered := !r && m.ctl.run
  let m := m.modCtl fun c => { c with run := r }
  let m :=
    if raised && m.ctl.device != .loading then
      { m with ep := { m.ep with windowAhead := m.arb.window.queue.length } }
    else m
  match m.ctl.device with
  | .halted => if raised then m.enterLoading else m
  | .running => if lowered then m.enterStopping else m
  | .faulted => if lowered then m.modCtl fun c => { c with device := .halted } else m
  | .loading | .stopping => m

/-- Entry to FAULTED with a cause (R146). -/
def State.enterFaulted (m : State) (cause : FaultCause) : State :=
  (m.modCtl fun c => { c with device := .faulted, faultCause := cause, load := .none }).raise .device

/-- The address of the stream status record of stream `s` (R137). -/
def State.streamStatusAddr (m : State) (s : StreamId) : Nat := m.dir.statusAddr.toNat + s.val * 64

/-- The thirteen status area writes at the end of a load, in order (R144). The rule does not say whether they are issued
together: that they are, and so carry one write_time, is the model's choice (DESIGN CHOICE, unsafe, log 43). -/
def State.statusInitBursts (m : State) : List Burst :=
  (allStreams.map fun s =>
    { purpose := .statusInit false, addr := m.dir.statusAddr.toNat + s.val * 64,
      access := .write (streamStatusBytes .off .none .none 0 0 0 m.now) })
  ++ (allPorts.map fun p =>
    { purpose := .statusInit false, addr := m.dir.statusAddr.toNat + 512 + p.val * 64,
      access := .write (portStatusBytes Port.reset none m.now) })
  ++ [{ purpose := .statusInit true, addr := m.dir.statusAddr.toNat + 768,
        access := .write (countRecordBytes m.notice.counts) }]

/-- DIRECTORY_READ_COMPLETE (R143): HALTED if run is 0, FAULTED if a check fails, otherwise the directory is copied and
the status area initialised. -/
def execDirectoryReadComplete (m : State) : Host.Outcome State Fault Refusal :=
  match m.oldest runControlClient with
  | none => .next m
  | some g =>
    if g.burst.purpose = .directoryRead then
      let m := m.complete runControlClient
      if m.ctl.run = false then .next (m.modCtl fun c => { c with device := .halted, load := .none })
      else
        match directoryFault m.ctl.dirbase g.data with
        | some cause => .next (m.enterFaulted cause)
        | none =>
          let m := m.modCtl fun c =>
            { c with dirCopy := some (decodeDirectory c.dirbase g.data), load := .initialising }
          .next (m.issueAll runControlClient m.statusInitBursts)
    else .next m

/-- STATUS_INIT_COMPLETE (R144, R145): the last status area write completes and the device enters RUNNING with the sweep
timer started (R120); with run 0 it passes on into STOPPING. -/
def execStatusInitComplete (m : State) : Host.Outcome State Fault Refusal :=
  match m.oldest runControlClient with
  | none => .next m
  | some g =>
    if g.burst.purpose = .statusInit true then
      let m := m.complete runControlClient
      let m := m.modCtl fun c => { c with device := .running, load := .none }
      let m := m.modReq fun u =>
        { u with sweepTimer := some (m.now + BitVec.ofNat 64 (m.dir.sweepPeriod.toNat * 125)) }
      .next (if m.ctl.run then m else m.enterStopping)
    else .next m

/-- Nothing that the part issued to CONTROL is outstanding (R148). -/
def State.controlQuiet (m : State) : Bool := m.arb.control.all Client.quiet

/-- The halt is complete (R148). -/
def State.haltDone (m : State) : Bool :=
  m.closed && m.heldPositions.isEmpty && m.controlQuiet && m.notice.mirror == .none

/-- HALT_COMPLETE (R149): HALTED, DEVICE raised, and LOADING at once if run is 1. -/
def execHaltComplete (m : State) : Host.Outcome State Fault Refusal :=
  if m.ctl.device = .stopping ∧ m.haltDone = true then
    let m := (m.modCtl fun c => { c with device := .halted }).modReq fun u => { u with halting := false }
    let m := m.raise .device
    .next (if m.ctl.run then m.enterLoading else m)
  else .next m

/-! ## Resets (R156, R157) -/

/-- A function reset: every block at its reset values; exchange memory, the DRAM's initialisation, the endpoint's
configuration, what has left the part, and the queue of commands stay (R156, R164, R180, log 31). -/
def State.functionReset (m : State) : State :=
  { State.reset with
    ep := { m.ep with heldNudges := [], windowAhead := 0 }
    arb := { Arbiter.reset with dramReady := m.arb.dramReady }
    mem := m.mem
    out := m.out
    pending := m.pending }

/-- POWER_ON_RESET (R157): as a function reset, but the endpoint's configuration is reset (R164), the DRAM is not
initialised, and nothing is known of the content of exchange memory (log 4). -/
def execPowerOnReset (m : State) : Host.Outcome State Fault Refusal :=
  .next { State.reset with out := m.out, pending := m.pending }

/-- PCIE_LINK_RESET (R156, R164): a function reset that also leaves the capability disabled and the vector unmasked. -/
def execPcieLinkReset (m : State) : Host.Outcome State Fault Refusal :=
  let m := m.functionReset
  .next { m with ep := { m.ep with msiEnabled := false, vectorMasked := false } }

/-! ## The register window (R150 to R155, R187) -/

/-- A CONTROL write (R152): bit 1 causes a function reset, otherwise bit 0 is the run level. -/
def State.writeControl (m : State) (w : Word) : State :=
  if w.getLsbD 1 then m.functionReset else m.setRun (w.getLsbD 0)

/-- DIRBASE as stored: bits 31–30 and 11–0 cleared (R153). -/
def dirbaseOf (w : Word) : Word := w &&& 0x3FFFF000

/-- A DIRBASE write (R153): taken in HALTED and FAULTED. -/
def State.writeDirbase (m : State) (w : Word) : State :=
  match m.ctl.device with
  | .halted | .faulted => m.modCtl fun c => { c with dirbase := dirbaseOf w }
  | .loading | .running | .stopping => m

/-- A NUDGE write (R154, R179): in RUNNING its trigger is held until the WINDOW bursts before it have been granted. -/
def State.writeNudge (m : State) : State :=
  if m.ctl.device = .running then
    { m with ep := { m.ep with heldNudges := m.ep.heldNudges ++ [m.arb.window.queue.length] } }
  else m

/-- A NOTICE_PENDING write removes the kinds it names (R161). -/
def State.writePending (m : State) (w : Word) : State :=
  m.setNotices (m.notice.pending &&& ~~~(w.setWidth 6)) m.notice.enable

/-- A NOTICE_ENABLE write replaces the enable set (R162). -/
def State.writeEnable (m : State) (w : Word) : State := m.setNotices m.notice.pending (w.setWidth 6)

/-- A 4-byte write of the word at an offset; read-only and undecoded words ignore it (R150). -/
def State.writeWord (m : State) (off : Nat) (w : Word) : State :=
  match off with
  | 0x04 => m.writeControl w
  | 0x0C => m.writeDirbase w
  | 0x10 => m.writeNudge
  | 0x14 => m.writePending w
  | 0x18 => m.writeEnable w
  | _ => m

/-- A register window write of some size (R150): 4 bytes at a word, 8 bytes at a word as the lower word and then the
next; a write that covers fewer than all 4 bytes of a word is ignored. R150 says nothing of a write of 8 bytes that does
not begin at a word, nor of one whose size is not 1, 2, 4 or 8: the model's choice is that it is ignored whole (log
38). -/
def State.writeRegister (m : State) (off size : Nat) (v : Dword) : State :=
  if size = 4 ∧ off % 4 = 0 then m.writeWord off (v.setWidth 32)
  else if size = 8 ∧ off % 4 = 0 then
    (m.writeWord off (v.setWidth 32)).writeWord (off + 4) ((v >>> 32).setWidth 32)
  else m

/-- What a read of the word at a word's offset returns (R150, R151, R187). A read of TIME_LO latches as well (R155). -/
def State.readWord (m : State) (off : Nat) : Word :=
  match off with
  | 0x00 => Config.ident
  | 0x04 => if m.ctl.run then 1 else 0
  | 0x08 => BitVec.ofNat 32 (m.ctl.device.code + 256 * m.ctl.faultCause.code)
  | 0x0C => m.ctl.dirbase
  | 0x14 => m.notice.pending.setWidth 32
  | 0x18 => m.notice.enable.setWidth 32
  | 0x1C => m.time.count.setWidth 32
  | 0x20 => m.time.latch
  | _ => 0

/-- The byte that a read returns for a byte offset: that of the word it lies in (R150). The spec gives a byte order for
shared records alone; the model's choice is the same for register words, bits 7–0 at the word's own offset (PRESUMED,
log 41). -/
def State.readByte (m : State) (off : Nat) : Byte :=
  BitVec.ofNat 8 ((m.readWord (off / 4 * 4)).toNat >>> (8 * (off % 4)))

/-- The bytes that a read of some size at an offset returns (R150), the state as it is: the addressed bytes of the word,
and for 8 bytes at a word those of the lower word and then the next. The same is the model's choice for a read that
crosses a word's end otherwise (log 39). -/
def State.readBytes (m : State) (off size : Nat) : List Byte := (List.range size).map fun k => m.readByte (off + k)

/-- A read takes in a byte of TIME_LO (R155). -/
def readsTimeLo (off size : Nat) : Bool := decide (off < 0x20) && decide (0x1C < off + size)

/-- The high half of the timebase is copied into the latch (R155). -/
def State.latchTime (m : State) : State :=
  { m with time := { m.time with latch := (m.time.count >>> 32).setWidth 32 } }

/-- A register window read (R150, R155): the state after it and the bytes it returns. One that takes in TIME_LO latches
first, so that TIME_HI in the same read is the high half of the same value. -/
def State.readRegister (m : State) (off size : Nat) : State × List Byte :=
  let m := if readsTimeLo off size = true then m.latchTime else m
  (m, m.readBytes off size)

/-- FUNC_RESET (R152, R156): a CONTROL write with func_reset 1. -/
def execFuncReset (w : Word) (m : State) : Host.Outcome State Fault Refusal := .next (m.writeWord 0x04 w)

/-- RUN (R152): a CONTROL write with func_reset 0. -/
def execRun (w : Word) (m : State) : Host.Outcome State Fault Refusal := .next (m.writeWord 0x04 w)

/-- DIRBASE_WRITE (R153). -/
def execDirbaseWrite (w : Word) (m : State) : Host.Outcome State Fault Refusal := .next (m.writeWord 0x0C w)

/-- NUDGE (R154): any value. -/
def execNudge (w : Word) (m : State) : Host.Outcome State Fault Refusal := .next (m.writeWord 0x10 w)

/-- NOTICE_PENDING_WRITE (R161). -/
def execNoticePendingWrite (w : Word) (m : State) : Host.Outcome State Fault Refusal := .next (m.writeWord 0x14 w)

/-- NOTICE_ENABLE_WRITE (R162). -/
def execNoticeEnableWrite (w : Word) (m : State) : Host.Outcome State Fault Refusal := .next (m.writeWord 0x18 w)

/-- REGISTER_WRITE_IGNORED (R150): the register window takes the write as its offset and size say, which is not at
all for a read-only word, an undecoded offset or a part of a word. -/
def execRegisterWriteIgnored (off size : Nat) (v : Dword) (m : State) : Host.Outcome State Fault Refusal :=
  .next (m.writeRegister off size v)

/-- TIME_LO_READ (R155, R150): a read that takes in TIME_LO, at its offset and of its size (where none is written, the
whole word alone), returns its bytes, and the high half is latched in the same step. -/
def execTimeLoRead (m : State) (off : Nat := 0x1C) (size : Nat := 4) : Host.Outcome State Fault Refusal :=
  let (m, bytes) := m.readRegister off size
  .next { m with out := { m.out with timeRead := bytes } }

/-! ## The endpoint's interrupt configuration (R164) -/

/-- VECTOR_MASK (R164). -/
def execVectorMask (m : State) : Host.Outcome State Fault Refusal :=
  .next { m with ep := { m.ep with vectorMasked := true } }

/-- VECTOR_UNMASK (R164): an owed message is sent if the condition still holds, and message owed is cleared. The
capability counts when a message is asked for and not here (log 19). -/
def execVectorUnmask (m : State) : Host.Outcome State Fault Refusal :=
  let sent := m.notice.owed && m.notice.condition
  .next { m with
    ep := { m.ep with vectorMasked := false }
    notice := { m.notice with owed := false }
    out := { m.out with messages := if sent then m.out.messages + 1 else m.out.messages } }

/-- MSI_CAPABILITY_CHANGE (R164). -/
def execMsiCapabilityChange (enabled : Bool) (m : State) : Host.Outcome State Fault Refusal :=
  .next { m with ep := { m.ep with msiEnabled := enabled } }

end Sys2Proof.Machine
end

