-- ==== Sys2Proof/Machine/Dispatch.lean ====
section
/-! DEFINITION. `exec`: the effect of a command on everything but the queue, one arm per row of the table. -/

namespace Sys2Proof.Machine

def exec (i : Instr) (s : State) : Host.Outcome State Fault Refusal :=
  match i with
  -- resets
  | .powerOnReset => Sys2Proof.Machine.execPowerOnReset s
  | .funcReset w => Sys2Proof.Machine.execFuncReset w s
  | .pcieLinkReset => Sys2Proof.Machine.execPcieLinkReset s
  | .dramInitComplete => Sys2Proof.Machine.execDramInitComplete s
  -- register window
  | .run w => Sys2Proof.Machine.execRun w s
  | .dirbaseWrite w => Sys2Proof.Machine.execDirbaseWrite w s
  | .nudge w => Sys2Proof.Machine.execNudge w s
  | .noticePendingWrite w => Sys2Proof.Machine.execNoticePendingWrite w s
  | .noticeEnableWrite w => Sys2Proof.Machine.execNoticeEnableWrite w s
  | .timeLoRead offset size => Sys2Proof.Machine.execTimeLoRead s offset size
  | .registerWriteIgnored offset size v => Sys2Proof.Machine.execRegisterWriteIgnored offset size v s
  | .vectorUnmask => Sys2Proof.Machine.execVectorUnmask s
  -- exchange window and memory arbiter
  | .exchangeWindowAccess a => Sys2Proof.Machine.execExchangeWindowAccess a s
  | .windowReadComplete => Sys2Proof.Machine.execWindowReadComplete s
  | .nudgeTriggerRelease => Sys2Proof.Machine.execNudgeTriggerRelease s
  | .directoryReadIssue => Sys2Proof.Machine.execDirectoryReadIssue s
  | .burstGrant => Sys2Proof.Machine.execBurstGrant s
  -- capture links and streams
  | .frameStart f => Sys2Proof.Machine.execFrameStart f s
  | .lineStart t pixels => Sys2Proof.Machine.execLineStart t pixels s
  | .lineEnd t => Sys2Proof.Machine.execLineEnd t s
  | .frameEndMarker t => Sys2Proof.Machine.execFrameEndMarker t s
  | .frameEnd t => Sys2Proof.Machine.execFrameEnd t s
  | .lossTimerExpiry t => Sys2Proof.Machine.execLossTimerExpiry t s
  -- sweeps
  | .sweepTimerExpiry => Sys2Proof.Machine.execSweepTimerExpiry s
  | .returnTicketReadComplete => Sys2Proof.Machine.execReturnTicketReadComplete s
  | .boardReadComplete => Sys2Proof.Machine.execBoardReadComplete s
  -- requests taken from the board copy
  | .badKind => Sys2Proof.Machine.execBadKind s
  | .nop => Sys2Proof.Machine.execNop s
  | .adoptStream => Sys2Proof.Machine.execAdoptStream s
  | .streamRecordReadComplete t => Sys2Proof.Machine.execStreamRecordReadComplete t s
  | .adoptionTakesEffect t => Sys2Proof.Machine.execAdoptionTakesEffect t s
  | .stopStream => Sys2Proof.Machine.execStopStream s
  | .holdStream => Sys2Proof.Machine.execHoldStream s
  | .resumeStream => Sys2Proof.Machine.execResumeStream s
  | .queryStream => Sys2Proof.Machine.execQueryStream s
  | .grab => Sys2Proof.Machine.execGrab s
  | .startPort => Sys2Proof.Machine.execStartPort s
  | .splice => Sys2Proof.Machine.execSplice s
  | .stopPort => Sys2Proof.Machine.execStopPort s
  | .queryPort => Sys2Proof.Machine.execQueryPort s
  -- completions of record writes
  | .answerWriteComplete => Sys2Proof.Machine.execAnswerWriteComplete s
  | .catalogWriteComplete => Sys2Proof.Machine.execCatalogWriteComplete s
  | .streamStatusWriteComplete t => Sys2Proof.Machine.execStreamStatusWriteComplete t s
  | .portStatusWriteComplete p => Sys2Proof.Machine.execPortStatusWriteComplete p s
  -- holds
  | .holdExpiry t b => Sys2Proof.Machine.execHoldExpiry t b s
  -- output ports and cue walkers
  | .outputFrameStart p => Sys2Proof.Machine.execOutputFrameStart p s
  | .scanReadComplete p => Sys2Proof.Machine.execScanReadComplete p s
  | .lineUnderrun p => Sys2Proof.Machine.execLineUnderrun p s
  | .outputLineEnd p => Sys2Proof.Machine.execOutputLineEnd p s
  | .fetchCompletion p => Sys2Proof.Machine.execFetchCompletion p s
  | .headFetchCompletion p => Sys2Proof.Machine.execHeadFetchCompletion p s
  | .discardedReadCompletion p => Sys2Proof.Machine.execDiscardedReadCompletion p s
  -- run control
  | .directoryReadComplete => Sys2Proof.Machine.execDirectoryReadComplete s
  | .statusInitComplete => Sys2Proof.Machine.execStatusInitComplete s
  | .haltReclaim => Sys2Proof.Machine.execHaltReclaim s
  | .haltComplete => Sys2Proof.Machine.execHaltComplete s
  | .countRecordWriteComplete => Sys2Proof.Machine.execCountRecordWriteComplete s
  -- endpoint configuration
  | .vectorMask => Sys2Proof.Machine.execVectorMask s
  | .msiCapabilityChange enabled => Sys2Proof.Machine.execMsiCapabilityChange enabled s

end Sys2Proof.Machine
end

