-- ==== Sys2Proof/Safety.lean ====
section
/-! DEFINITION. What a safe state of the NZ840 is: the properties that the rules promise of every state, each closed
under every step. -/

namespace Sys2Proof.Machine

/-! ## Frames that are read or lent are not written -/

/-- A bank that an output port claims or that the host holds is VALID (R4, R14), so it is neither EMPTY nor FILLING. -/
def State.MarkedValid (m : State) : Prop :=
  ∀ s i, m.bx.marked s i = true → (m.bank s i).state = .valid

/-- The claimed bank that a port keeps names the bank of its entry in the claim table (R91), and a port in OFF or
STARTING claims none (R107, R113). -/
def State.ClaimsAgree (m : State) : Prop :=
  ∀ p : PortId, (m.port p).claimed.map (fun b => (b.stream, b.bank)) = m.bx.claims[p]
    ∧ ((m.port p).state = .off ∨ (m.port p).state = .starting → m.bx.claims[p] = none)

/-- The number of FILLING banks of a stream. -/
def BankExchange.fillingCount (x : BankExchange) (s : StreamId) : Nat :=
  allBanks.countP fun i => (x.bank s i).state == .filling

/-- The number of ports whose claim table entry names a bank of the stream (R188). -/
def BankExchange.claimCount (x : BankExchange) (s : StreamId) : Nat :=
  allPorts.countP fun p => match x.claims[p] with | none => false | some q => q.1 == s

/-- The number of the writer's candidates (R6, R188). -/
def BankExchange.candidateCount (x : BankExchange) (s : StreamId) : Nat :=
  allBanks.countP (x.candidate s)

/-- A queued CAPTURE burst of stream `s` writes bytes of a row below height of the FILLING bank, within the row's
width, and its row has an OCCUPIED entry of the line buffer (R8, R175). -/
def State.CaptureBurstOk (m : State) (s : StreamId) (b : Burst) : Prop :=
  ∃ i r off bytes e l,
    m.filling s = some i ∧ r < m.frameHeight s
      ∧ off + bytes.length ≤ (m.bx.geom s).width.toNat * (m.bx.geom s).format.bytesPerPixel
      ∧ b = m.lineBurst s i r off bytes
      ∧ (m.cport s).buffer[(e : Fin 2)] = some l ∧ l.row = r

/-- A capture port writes only into its stream's FILLING bank (R8): its queued bursts do, the rest of a line it still
holds fits its row, an OFF stream fills nothing and has an empty line buffer, and only an OFF stream waits for an
adoption. -/
def State.CaptureSafe (m : State) : Prop :=
  ∀ s, (∀ b ∈ (m.client (.capture s)).queue, m.CaptureBurstOk s b)
    ∧ (∀ (e : Fin 2) l, (m.cport s).buffer[e] = some l →
        l.row < m.frameHeight s
        ∧ l.restOffset + l.rest.length ≤ (m.bx.geom s).width.toNat * (m.bx.geom s).format.bytesPerPixel)
    ∧ ((m.filling s).isNone = true → (m.cport s).allFree = true)
    ∧ m.bx.fillingCount s ≤ 1
    ∧ ((m.stream s).state = .off → m.filling s = none)
    ∧ ((m.stream s).adoption ≠ .none → (m.stream s).state = .off)

/-! ## Accounts -/

/-- Every frame shown is counted fresh, repeat or fill (R105). -/
def State.PortAccounts (m : State) : Prop :=
  ∀ p, (m.port p).counters.shown
    = (m.port p).counters.fresh + (m.port p).counters.repeated + (m.port p).counters.fill

/-- Every frame that arrived is in one class, or in the FILLING bank (R40); a stream that is not OFF has a
configuration (R27) and at most one FILLING bank (R7). -/
def State.StreamAccounts (m : State) : Prop :=
  ∀ s,
    let c := (m.stream s).counters
    ((m.stream s).state ≠ .off → (m.stream s).config.isSome = true)
    ∧ m.bx.fillingCount s ≤ 1
    ∧ c.arrived = c.written + c.decimated + c.frozen + c.dropped + c.broken
        + (if (m.filling s).isSome = true then 1 else 0)

/-- The holds count is the number of holds and stays within the quota (R50, R53), and the catalog state is HELD exactly
while a hold is there (R5). -/
def State.HoldAccounts (m : State) : Prop :=
  ∀ s, (m.publish s).holds = m.bx.heldCount s ∧ (m.publish s).holds ≤ m.holdLimit s
    ∧ ∀ i, (m.bank s i).catalog = .held ↔ (m.bank s i).hold.isSome = true

/-- The catalog events that are a placement or the end of a hold, which the status record write follows (R57, R67). -/
def CatalogEvent.isHoldEvent : CatalogEvent → Bool
  | .published | .grabbed _ _ | .returned | .expired | .haltReclaimed => true
  | .adoption _ | .lateReturn => false

/-- The catalog record write of a hold event of stream `s`. -/
def Purpose.isHoldWrite (s : StreamId) : Purpose → Bool
  | .catalogWrite t _ ev => t == s && ev.isHoldEvent
  | _ => false

/-- How many catalog record writes of hold events of stream `s` are issued and have not completed. -/
def State.holdWrites (m : State) (s : StreamId) : Nat :=
  let c := m.client publicationClient
  c.queue.countP (fun b => b.purpose.isHoldWrite s) + c.granted.countP fun g => g.burst.purpose.isHoldWrite s

/-- Of the status record writes that wait, as many await a catalog record write as are outstanding; the first that waits
awaits one, and the last shows the present number of holds (R57, R71, log 37). -/
def State.ReportsAgree (m : State) : Prop :=
  ∀ s, m.reports[s].countP (·.awaitsCatalog) = m.holdWrites s
    ∧ (∀ r, m.reports[s].head? = some r → r.awaitsCatalog = true)
    ∧ ∀ r, m.reports[s].getLast? = some r → r.holds = m.bx.heldCount s

/-! ## Bounds -/

/-- The floor counts stay in their ranges (R171). -/
def State.FloorBounds (m : State) : Prop := m.arb.windowFloor ≤ 15 ∧ m.arb.controlFloor ≤ 7

/-- A hop count that is kept is below 8 (R81). -/
def State.HopBounds (m : State) : Prop := ∀ p, (m.walker p).hops < 8

/-- DIRBASE holds a multiple of 4096 below 0x40000000 (R153). -/
def State.DirbaseAligned (m : State) : Prop :=
  m.ctl.dirbase.toNat % 4096 = 0 ∧ m.ctl.dirbase.toNat < Config.memorySize

/-! ## Words of the statements: what the taking of a slot leaves -/

/-- The commands that take a slot, each with the kind it takes; `none` is a kind field that names no request. -/
def requestCommands : List (Instr × Option RequestKind) :=
  [(.badKind, none), (.nop, some .nop), (.adoptStream, some .adoptStream), (.stopStream, some .stopStream),
   (.holdStream, some .holdStream), (.resumeStream, some .resumeStream), (.queryStream, some .queryStream),
   (.grab, some .grab), (.startPort, some .startPort), (.splice, some .splice), (.stopPort, some .stopPort),
   (.queryPort, some .queryPort)]

/-- Slot `n`, a request of kind `k` with contents `r`, is on turn, and no halt is in progress (R124, R134). -/
def State.onTurn (m : State) (k : RequestKind) (n : SlotId) (r : Request) : Prop :=
  m.turn = some (n, r) ∧ RequestKind.ofCode r.kind = some k ∧ m.req.halting = false

/-- Behind what it had issued, the request unit has issued `bs`; further bursts only where a pending sweep begins
(R121). -/
def State.requestIssues (m t : State) (bs : List Burst) : Prop :=
  (m.client requestClient).queue ++ bs <+: (t.client requestClient).queue
  ∧ (m.req.sweepPending = false → (t.client requestClient).queue = (m.client requestClient).queue ++ bs)

/-- Slot `n` has been taken and its request left WAITING (R125, R127). -/
def State.leftWaiting (m t : State) (n : SlotId) (r : Request) : Prop :=
  t.req.inFlight = m.req.inFlight.set n (some ⟨r, r.owner, .waiting⟩) ∧ m.requestIssues t [m.takenBurst n]

/-- Slot `n` has been taken and answered at taking: the TAKEN write and the answer write are issued, and the request is
ANSWERING (R125, R127, R128). -/
def State.answeredAtTaking (m t : State) (n : SlotId) (r : Request) (ans : Answer) : Prop :=
  t.req.inFlight = m.req.inFlight.set n (some ⟨r, r.owner, .answering⟩)
  ∧ m.requestIssues t [m.takenBurst n, m.answerBurst n r ans]

/-- A request that some block held in slot `k` has been answered, if slot `k` was WAITING (R128, R133). -/
def State.endsHeld (m t : State) (k : SlotId) (ans : Answer) : Prop :=
  ∀ e, m.req.inFlight[k] = some e → e.phase = .waiting →
    t.req.inFlight[k] = some { e with phase := .answering }
    ∧ t.answerBurst k e.request ans ∈ (t.client requestClient).queue

/-- Every WAITING request has been answered REFUSED with ABORTED, and the owners hold no request any more (R134). -/
def State.abortsWaiting (m t : State) : Prop :=
  (∀ n, m.endsHeld t n (.refused .aborted))
  ∧ (∀ s, (t.stream s).waitingStop = none ∧ (t.stream s).waitingHold = none)
  ∧ ∀ p, (t.port p).splice = none ∧ (t.port p).waiting = none

/-- Nothing of the streams, capture ports and banks of the other streams differs. -/
def State.otherStreamsSame (m t : State) (s : StreamId) : Prop :=
  ∀ k, k ≠ s → t.stream k = m.stream k ∧ t.cport k = m.cport k ∧ t.publish k = m.publish k
    ∧ (∀ j, t.bank k j = m.bank k j) ∧ (∀ j, t.image k j = m.image k j) ∧ t.bx.geometry[k] = m.bx.geometry[k]

/-- Nothing of the other ports and walkers, and of their claims, differs. -/
def State.otherPortsSame (m t : State) (p : PortId) : Prop :=
  ∀ k, k ≠ p → t.port k = m.port k ∧ t.walker k = m.walker k ∧ t.bx.claims[k] = m.bx.claims[k]

/-- What client `c` has issued; nothing at its completions. -/
def State.clientIssues (m t : State) (c : ClientId) (bs : List Burst) : Prop :=
  t.client c = { m.client c with queue := (m.client c).queue ++ bs }

/-- The clients outside a list, the rotation pointers, the floor counts and the DRAM's readiness are as they were. -/
def State.otherClientsSame (m t : State) (cs : List ClientId) : Prop :=
  (∀ c, c ∉ cs → t.client c = m.client c)
  ∧ t.arb.rotScan = m.arb.rotScan ∧ t.arb.rotCapture = m.arb.rotCapture ∧ t.arb.rotControl = m.arb.rotControl
  ∧ t.arb.windowFloor = m.arb.windowFloor ∧ t.arb.controlFloor = m.arb.controlFloor
  ∧ t.arb.dramReady = m.arb.dramReady

/-- Of the status record writes `l` that stream `s` has been asked for, those in front of the first that awaits its hold
event's catalog record write are issued, in RUNNING and STOPPING, and the rest waits (R41, R71, log 37). Each has the
state, the freeze mode and the holds after its own event, and all else as it is now (R57, log 17). -/
def State.statusWrites (m t : State) (s : StreamId) (l : List StatusReport) : Prop :=
  m.clientIssues t (streamClient s) (if t.ctl.device.serves = true then
    (l.takeWhile fun r => !r.awaitsCatalog).map fun r =>
      ⟨.streamStatus r.notice, m.dir.statusAddr.toNat + s.val * 64,
        .write (streamStatusBytes r.state r.freeze (t.stream s).lastBroken r.holds (t.bx.lastSeq s)
          (t.stream s).placements t.now)⟩
    else [])
  ∧ t.reports[s] = l.dropWhile fun r => !r.awaitsCatalog

/-- The step from `m` to `t` asks for a write of stream `s`'s status record, reporting or not a transition that raises
STREAM, or (`none`) for no write. It shows what the event left, and waits behind what waits already (R41, R22). -/
def State.reportsStatus (m t : State) (s : StreamId) (asked : Option Bool) : Prop :=
  match asked with
  | none => m.clientIssues t (streamClient s) [] ∧ t.reports[s] = m.reports[s]
  | some notice =>
    m.statusWrites t s
      (m.reports[s] ++ [⟨(t.stream s).state, (t.stream s).freeze, notice, t.bx.heldCount s, false⟩])

/-- A hold event has asked for the status record write that follows its catalog record write, with the holds count after
the event, and it waits (R57, R67). -/
def State.holdReported (m t : State) (s : StreamId) (notice : Bool) : Prop :=
  m.clientIssues t (streamClient s) []
  ∧ t.reports[s]
    = m.reports[s] ++ [⟨(t.stream s).state, (t.stream s).freeze, notice, t.bx.heldCount s, true⟩]

/-- No status record write of another stream begins or ends its wait. -/
def State.otherReportsSame (m t : State) (s : StreamId) : Prop := ∀ k, k ≠ s → t.reports[k] = m.reports[k]

/-- A frame start with capture time `time` has been presented in SEEKING, LIVE or LOST, with nothing FILLING, and
classified (R31, R32): seq and arrived grow by one, the stream is LIVE, the loss timer restarts, and the frame is
frozen, decimated, dropped or granted the writer's bank, which takes the time as its capture_time (R7, R23). -/
def State.startsFrame (m t : State) (s : StreamId) (cfg : StreamConfig) (time : Dword) : Prop :=
  let old := m.stream s
  let c := { old.counters with arrived := old.counters.arrived + 1 }
  let new : Stream := { old with
    state := .live, seq := old.seq + 1, counters := c,
    lossTimer := some (m.now + BitVec.ofNat 64 (cfg.lossTimeout.toNat * 1000)) }
  (old.freeze = .active → t.stream s = { new with counters := { c with frozen := c.frozen + 1 } } ∧ t.bx = m.bx)
  ∧ (old.freeze ≠ .active → old.decimation + 1 < cfg.captureDivisor.toNat →
      t.stream s = { new with counters := { c with decimated := c.decimated + 1 }, decimation := old.decimation + 1 }
      ∧ t.bx = m.bx)
  ∧ (old.freeze ≠ .active → ¬ old.decimation + 1 < cfg.captureDivisor.toNat → m.bx.writerChoice s = none →
      t.stream s = { new with counters := { c with dropped := c.dropped + 1 }, decimation := 0 } ∧ t.bx = m.bx)
  ∧ (∀ i, old.freeze ≠ .active → ¬ old.decimation + 1 < cfg.captureDivisor.toNat → m.bx.writerChoice s = some i →
      t.stream s = { new with decimation := 0, lineCount := 0, lineFlags := .clear }
      ∧ t.bank s i = { m.bank s i with
          state := .filling, seq := old.seq + 1, captureTime := time, lines := 0, flags := ⟨false, false⟩ }
      ∧ (∀ j, j ≠ i → t.bank s j = m.bank s j) ∧ (∀ k j, k ≠ s → t.bank k j = m.bank k j)
      ∧ t.bx.claims = m.bx.claims ∧ t.bx.geometry = m.bx.geometry)

/-- A frame start with capture time `time` has been presented in LIVE and has broken the frame FILLING bank (s, i) with
cause INTERRUPTED (R31); the new frame is then classified in the banks that the break left, frozen if a freeze was
PENDING, whose HOLD_STREAM is answered DONE (R32, R34). -/
def State.interruptsFrame (m t : State) (s : StreamId) (i : BankIx) (cfg : StreamConfig) (time : Dword) : Prop :=
  let old := m.stream s
  let x := m.bx.modBank s i fun b =>
    { b with state := .empty, seq := 0, captureTime := 0, lines := 0, flags := ⟨false, false⟩ }
  (t.stream s).state = .live ∧ (t.stream s).seq = old.seq + 1
  ∧ (t.stream s).counters.arrived = old.counters.arrived + 1
  ∧ (t.stream s).counters.broken = old.counters.broken + 1 ∧ (t.stream s).lastBroken = .interrupted
  ∧ (t.stream s).counters.written = old.counters.written
  ∧ (t.stream s).lossTimer = some (m.now + BitVec.ofNat 64 (cfg.lossTimeout.toNat * 1000))
  ∧ (t.stream s).waitingStop = old.waitingStop
  ∧ (old.freeze ≠ .none → (t.stream s).freeze = .active
      ∧ (t.stream s).counters.frozen = old.counters.frozen + 1 ∧ t.bx = x)
  ∧ (old.freeze = .pending → (t.stream s).waitingHold = none
      ∧ (∀ n, old.waitingHold = some n → t.req = (m.report n (.done [])).req))
  ∧ (old.freeze = .none → (t.stream s).freeze = .none
      ∧ (old.decimation + 1 < cfg.captureDivisor.toNat →
          (t.stream s).counters.decimated = old.counters.decimated + 1 ∧ t.bx = x)
      ∧ (¬ old.decimation + 1 < cfg.captureDivisor.toNat → x.writerChoice s = none →
          (t.stream s).counters.dropped = old.counters.dropped + 1 ∧ t.bx = x)
      ∧ (¬ old.decimation + 1 < cfg.captureDivisor.toNat → ∀ j, x.writerChoice s = some j →
          (t.bank s j).state = .filling ∧ (t.bank s j).seq = old.seq + 1 ∧ (t.bank s j).captureTime = time))
  ∧ (t.client (.capture s)).queue = [] ∧ (t.client (.capture s)).granted = (m.client (.capture s)).granted
  ∧ (t.cport s).buffer = #v[none, none]
  ∧ m.reportsStatus t s (if old.freeze = .pending then some false else none)

/-- The number of the stream's catalog records whose last written rec_state is HELD (R71): of a position for which a
hold event's write still waits at the arbiter, the state before the oldest such event counts. -/
def State.writtenHeld (m : State) (s : StreamId) : Nat :=
  allBanks.countP fun i =>
    match (m.client publicationClient).queue.filterMap (fun b => match b.purpose with
        | .catalogWrite k j ev => if k = s ∧ j = i then
            (match ev with
              | .published | .grabbed _ _ => some false
              | .returned | .expired | .haltReclaimed => some true
              | .adoption _ | .lateReturn => none)
          else none
        | _ => none) with
    | [] => (m.bank s i).catalog == .held
    | before :: _ => before

/-- The placement of a hold for publication on bank (s, i) has reached the bank exchange. Accepted: the position's next
ticket, the deadline, the holds count, the image and the record's write (R14, R52, R54, R60). Refused, the bank not
VALID or held already, or with the quota full: publish_missed is counted and nothing else happens. -/
def State.placedOrMissed (m t : State) (s : StreamId) (i : BankIx) : Prop :=
  let b := m.bank s i
  let old := m.stream s
  let ticket := if b.lastTicket = 65535 then 1 else b.lastTicket + 1
  let accepted := b.state = .valid ∧ b.hold = none ∧ (m.publish s).holds ≠ m.holdLimit s
  (accepted →
    t.bank s i = { b with
      catalog := .held, lastTicket := ticket
      hold := some ⟨ticket,
        (match old.config with
          | none => none
          | some c => if c.holdTime = 0 then none else some (m.now + BitVec.ofNat 64 (c.holdTime.toNat * 1000))),
        .published⟩ }
    ∧ t.publish s = { m.publish s with holds := (m.publish s).holds + 1 }
    ∧ t.image s i = ⟨some .published, b.seq, b.captureTime, b.lines, b.flags, .none⟩
    ∧ m.clientIssues t publicationClient
        [⟨.catalogWrite s i .published, m.dir.catalogAddr.toNat + s.val * 512 + i.val * 64,
          .write (t.catalogRecord s i ticket)⟩]
    ∧ (∀ k j, k ≠ s ∨ j ≠ i → t.bank k j = m.bank k j ∧ t.image k j = m.image k j)
    ∧ (∀ k, k ≠ s → t.publish k = m.publish k) ∧ t.bx.claims = m.bx.claims ∧ t.bx.geometry = m.bx.geometry
    ∧ m.holdReported t s false ∧ m.otherReportsSame t s
    ∧ m.otherClientsSame t [publicationClient]
    ∧ { t with bx := m.bx, pub := m.pub, reports := m.reports, arb := m.arb } = m)
  ∧ (¬ accepted →
    t.stream s = { old with counters := { old.counters with publishMissed := old.counters.publishMissed + 1 } }
    ∧ (∀ k, k ≠ s → t.stream k = m.stream k) ∧ { t with streams := m.streams } = m)

/-- The state with the placement that was on its way for stream `s` taken off its way. -/
def State.withoutOffer (m : State) (s : StreamId) : State :=
  { m with pub := { m.pub with streams := m.pub.streams.set s { m.publish s with offer := none } } }

/-- FRAME_START of stream `s`, its `waited` as given, presents a frame start with capture time `time`, behind which `rest`
waits (R23): one whose marker is decoded now with nothing waiting, or the one at the front of what waits. -/
def State.presentsStart (m : State) (s : StreamId) (waited : Bool) (time : Dword) (rest : List LinkEvent) : Prop :=
  (waited = false ∧ (m.cport s).waiting = [] ∧ time = m.now ∧ rest = [])
  ∨ (waited = true ∧ (m.cport s).waiting = .frameStart time :: rest)

/-- Frame starts wait at the capture port of stream `s`, which is not OFF, with no frame end among them: the first one's
FRAME_START, with the placement that it takes with it, comes about in the step of a further event `c` of the link
(R23). -/
def State.startsGoFirst (m : State) (s : StreamId) (c : Instr) : Prop :=
  ∀ (x : Dword) (rest : List LinkEvent), (m.cport s).waiting = .frameStart x :: rest → .frameEnd ∉ rest →
    (m.stream s).state ≠ .off →
    ∃ u, exec (.frameStart ⟨s, true⟩) m = .next u ∧ exec c m = exec c u

/-- Kind `k` has been raised `n` times, and the notice unit and the messages show nothing else (R160, R163 to R165): the
count, the pending kind, one message at most where the interrupt condition became true, or message owed, and in RUNNING
and STOPPING a write of the count record asked for. -/
def State.raisedTimes (m t : State) (k : NoticeKind) (n : Nat) : Prop :=
  let before := m.notice.pending &&& m.notice.enable
  let after := t.notice.pending &&& t.notice.enable
  let asks := before = 0 ∧ after ≠ 0 ∧ m.ep.msiEnabled = true
  let mirrors := n ≠ 0 ∧ t.ctl.device.serves = true
  t.notice.counts = m.notice.counts.set k.index (m.notice.counts[k.index] + BitVec.ofNat 32 n)
  ∧ t.notice.pending = (if n = 0 then m.notice.pending else m.notice.pending ||| BitVec.twoPow 6 k.index.val)
  ∧ t.notice.enable = m.notice.enable
  ∧ t.out = { m.out with
      messages := if asks ∧ m.ep.vectorMasked = false then m.out.messages + 1 else m.out.messages }
  ∧ t.notice.owed = (if asks ∧ m.ep.vectorMasked = true then true else m.notice.owed)
  ∧ t.notice.mirror = (if mirrors then
      (match m.notice.mirror with | .none | .waiting => .waiting | .issued | .issuedAgain => .issuedAgain)
    else m.notice.mirror)
  ∧ m.clientIssues t noticeClient
      (if mirrors ∧ m.notice.mirror = .none then [⟨.countRecord, m.dir.statusAddr.toNat + 768, .writeCounts⟩] else [])

/-- Cue `c` from address `a` has become current at port `p`, and its prefetch has begun behind what the port had issued
(R78, R98); `status` is what the port issues after it. -/
def State.cueIsCurrent (m t : State) (p : PortId) (a : Word) (c : Cue) (status : List Burst) : Prop :=
  (t.port p).current = some ⟨a, c⟩ ∧ (t.port p).dwell = c.dwell
  ∧ (t.port p).counters.cueChanges = (m.port p).counters.cueChanges + 1
  ∧ t.walker p = (match c.link with
      | none => { m.walker p with state := .idle true, hops := 0 }
      | some l => { m.walker p with state := .fetching, fetchAddr := l, fetchOrigin := .link, hops := 0 })
  ∧ m.clientIssues t (portClient p)
      ((match c.link with
        | none => []
        | some l => if (m.walker p).discardedRead = true then [] else [⟨.cueRead, l.toNat, .read 32⟩]) ++ status)

/-- The port status record of port `p` as it stands, reporting that many PORT notices, written in RUNNING and STOPPING
(R106, R159). -/
def State.statusOfPort (m : State) (p : PortId) (notices : Nat) : List Burst :=
  if m.ctl.device.serves = true then
    [⟨.portStatus notices, m.dir.statusAddr.toNat + 512 + p.val * 64,
      .write (portStatusBytes (m.port p) (m.walker p).nextCueAddr m.now)⟩]
  else []

/-- Nothing differs outside what an output frame start and a port's own work can touch. -/
def State.portFrame (m t : State) (p : PortId) : Prop :=
  (∀ k, k ≠ p → t.port k = m.port k ∧ t.walker k = m.walker k ∧ t.bx.claims[k] = m.bx.claims[k])
  ∧ t.bx.geometry = m.bx.geometry
  ∧ m.otherClientsSame t [.scan p, portClient p, requestClient]
  ∧ { t with
      ports := m.ports, walkers := m.walkers, bx := m.bx, arb := m.arb, req := m.req, time := m.time } = m

/-- A bank whose last mark was port `p`'s claim, moved or released, is EMPTY if its stream is OFF; every other bank is
as it was (R12, R18). -/
def State.retiresOnly (m t : State) (p : PortId) : Prop :=
  ∀ k i, t.bank k i =
    if m.bx.claims[p] = some (k, i) ∧ t.bx.claims[p] ≠ some (k, i) ∧ (m.stream k).state = .off
        ∧ (m.bank k i).state = .valid ∧ (m.bank k i).hold = none ∧ ∀ o : PortId, t.bx.claims[o] ≠ some (k, i)
    then { m.bank k i with state := .empty, seq := 0, captureTime := 0, lines := 0, flags := ⟨false, false⟩ }
    else m.bank k i

end Sys2Proof.Machine
end

