-- ==== Sys2Proof/WellFormed.lean ====
section
/-! DEFINITION. Which commands stand for something that can reach the part: the checks on a command's operands that
their types do not make already. -/

namespace Sys2Proof

/-- An exchange window access has at least one byte and lies inside the 1 GiB window (R178, spec/07 section 7.1). -/
def WindowAccess.wellFormed : WindowAccess → Bool
  | .read a n => decide (1 ≤ n) && decide (a + n ≤ Config.memorySize)
  | .write a bs => decide (1 ≤ bs.length) && decide (a + bs.length ≤ Config.memorySize)

/-- The offsets of the words a host may write: CONTROL, DIRBASE, NUDGE, NOTICE_PENDING, NOTICE_ENABLE (R150). -/
def writableOffset (off : Nat) : Bool :=
  off == 0x04 || off == 0x0C || off == 0x10 || off == 0x14 || off == 0x18

/-- A register window write that is ignored (R150): it covers fewer than all 4 bytes of a word, or its word is
read-only or undecoded; a write of 8 bytes at a word is two words, each of which must be so. Any other write of 8 bytes,
and one whose size is not 1, 2, 4 or 8, counts as ignored too: that is the model's choice, R150 being silent (log 38). -/
def ignoredWrite (off size : Nat) : Bool :=
  if size = 4 ∧ off % 4 = 0 then !writableOffset off
  else if size = 8 ∧ off % 4 = 0 then !writableOffset off && !writableOffset (off + 4)
  else true

/-- A read that takes in TIME_LO (R150, R155): 1, 2 or 4 bytes of the word at 0x1C, or 8 bytes at a word's offset of which
it is one of the two words. -/
def timeLoReadOk (off size : Nat) : Bool :=
  ((size == 1 || size == 2 || size == 4) && decide (0x1C ≤ off) && decide (off + size ≤ 0x20))
    || (size == 8 && (off == 0x18 || off == 0x1C))

/-- The operand checks of a command. RUN is a CONTROL write with func_reset (bit 1) 0 and FUNC_RESET one with
func_reset 1 (R152, R187); a line has at least one pixel byte (R175). -/
def Instr.wellFormed : Instr → Bool
  | .funcReset w => w.getLsbD 1
  | .run w => !w.getLsbD 1
  | .registerWriteIgnored off size _ => ignoredWrite off size
  | .exchangeWindowAccess a => a.wellFormed
  | .lineStart _ px => !px.isEmpty
  | .timeLoRead off size => timeLoReadOk off size
  | .powerOnReset | .pcieLinkReset | .dramInitComplete | .dirbaseWrite _ | .nudge _ | .noticePendingWrite _
  | .noticeEnableWrite _ | .vectorUnmask | .windowReadComplete | .nudgeTriggerRelease
  | .directoryReadIssue | .burstGrant | .frameStart _ | .lineEnd _ | .frameEndMarker _ | .frameEnd _
  | .lossTimerExpiry _ | .sweepTimerExpiry | .returnTicketReadComplete | .boardReadComplete | .badKind | .nop
  | .adoptStream | .streamRecordReadComplete _ | .adoptionTakesEffect _ | .stopStream | .holdStream | .resumeStream
  | .queryStream | .grab | .startPort | .splice | .stopPort | .queryPort | .answerWriteComplete
  | .catalogWriteComplete | .streamStatusWriteComplete _ | .portStatusWriteComplete _ | .holdExpiry _ _
  | .outputFrameStart _ | .scanReadComplete _ | .lineUnderrun _ | .outputLineEnd _ | .fetchCompletion _
  | .headFetchCompletion _ | .discardedReadCompletion _ | .directoryReadComplete | .statusInitComplete
  | .haltReclaim | .haltComplete | .countRecordWriteComplete | .vectorMask | .msiCapabilityChange _ => true

end Sys2Proof
end

