-- ==== Sys2Proof/Certificates/Slice0/Obligations.lean ====
section
/-! DEFINITION. The statements for the provers: what each command does to the state that the rules speak of, what it
leaves alone, that it completes, and what every step keeps. A frame is written as an equation: `{ t with x := m.x } = m`
says that `t` is `m` outside the field `x`. -/

open Sys2Proof Sys2Proof.Machine

/-! ## The queue -/

/-- A step takes the command at the front of the queue and answers `exec` of it on the state with the queue's rest. -/
def Obligations.StepRunsFrontCommand : Prop :=
  ∀ (c : Instr) (rest : List Instr) (m : State),
    step { m with pending := c :: rest } = exec c { m with pending := rest }

/-- The model's choice (log 2): with no command waiting, a step is one microsecond, and nothing else changes. -/
def Obligations.StepOnEmptyQueueTicks : Prop :=
  ∀ m : State, m.pending = [] → step m = .next { m with time := { m.time with count := m.time.count + 1 } }

/-! ## Resets and the endpoint's configuration -/

/-- The reset columns of the chapters; the message capability is disabled and the vector unmasked, and the DRAM is not
yet initialised. The placement on its way and the status record writes that wait are the model's own fields (log 9, log
34, log 37). -/
def Obligations.ResetValues : Prop :=
  let r := State.reset
  (r.ctl.device = .halted ∧ r.ctl.run = false ∧ r.ctl.dirbase = 0 ∧ r.ctl.faultCause = .none ∧ r.ctl.dirCopy = none)
  ∧ (r.time.count = 0 ∧ r.time.latch = 0)
  ∧ (∀ s, (r.stream s).state = .off ∧ (r.stream s).freeze = .none ∧ (r.stream s).config = none
      ∧ (r.stream s).adoption = .none ∧ (r.stream s).seq = 0 ∧ (r.stream s).decimation = 0
      ∧ (r.stream s).counters.toList = List.replicate 10 0 ∧ (r.stream s).placements = 0
      ∧ (r.stream s).lastBroken = .none ∧ (r.stream s).lossTimer = none
      ∧ (r.stream s).waitingStop = none ∧ (r.stream s).waitingHold = none
      ∧ (r.cport s).allFree = true ∧ (r.publish s).nth = 0 ∧ (r.publish s).holds = 0 ∧ (r.publish s).offer = none
      ∧ r.bx.geometry[s] = none ∧ r.reports[s] = [])
  ∧ (∀ s i, (r.bank s i).state = .empty ∧ (r.bank s i).seq = 0 ∧ (r.bank s i).captureTime = 0
      ∧ (r.bank s i).lines = 0 ∧ (r.bank s i).flags = ⟨false, false⟩ ∧ (r.bank s i).hold = none
      ∧ (r.bank s i).catalog = .idle ∧ (r.bank s i).lastTicket = 0
      ∧ r.image s i = ⟨none, 0, 0, 0, ⟨false, false⟩, .none⟩)
  ∧ (∀ p : PortId, r.bx.claims[p] = none ∧ (r.walker p).state = .idle false ∧ (r.walker p).hops = 0
      ∧ (r.walker p).fetchAddr = 0 ∧ (r.walker p).fetchOrigin = .link
      ∧ (r.walker p).discardedRead = false ∧ (r.port p).state = .off ∧ (r.port p).raster = none
      ∧ (r.port p).framePeriod = none ∧ (r.port p).frameTimer = none ∧ (r.port p).current = none
      ∧ (r.port p).dwell = 0 ∧ (r.port p).claimed = none ∧ (r.port p).shownSeq = 0 ∧ (r.port p).splice = none
      ∧ (r.port p).waiting = none ∧ (r.port p).faultCause = .none ∧ (r.port p).faultAddr = 0
      ∧ (r.port p).counters.toList = List.replicate 8 0 ∧ (r.port p).frames = 0
      ∧ (r.port p).buffer = #v[.free, .free])
  ∧ (r.req.sweepTimer = none ∧ r.req.sweep = .idle ∧ r.req.sweepPending = false ∧ r.req.nextSlot = 0
      ∧ r.req.board = [] ∧ (∀ n : SlotId, r.req.inFlight[n] = none) ∧ r.req.halting = false)
  ∧ (r.notice.pending = 0 ∧ r.notice.enable = 0 ∧ (∀ k : Fin 6, r.notice.counts[k] = 0) ∧ r.notice.owed = false
      ∧ r.notice.mirror = .none)
  ∧ (∀ c : ClientId, (r.client c).queue = [] ∧ (r.client c).granted = [])
  ∧ (r.arb.rotScan = 0 ∧ r.arb.rotCapture = 0 ∧ r.arb.rotControl = 0 ∧ r.arb.windowFloor = 0
      ∧ r.arb.controlFloor = 0 ∧ r.arb.port = none ∧ r.arb.dramReady = false)
  ∧ (r.ep.msiEnabled = false ∧ r.ep.vectorMasked = false)

/-- The three resets give the state of `State.reset`; the two function resets keep exchange memory and the DRAM's
initialisation, a func_reset write keeps the endpoint's configuration, and a power-on reset forgets memory (log 4). What
has left the part and the queue of commands stay (log 31). -/
def Obligations.ResetsComplete : Prop :=
  ∀ m : State,
    exec .powerOnReset m = .next { State.reset with out := m.out, pending := m.pending }
    ∧ (∀ w : Word, w.getLsbD 1 = true →
        exec (.funcReset w) m = .next { State.reset with
          ep := { m.ep with heldNudges := [], windowAhead := 0 }
          arb := { State.reset.arb with dramReady := m.arb.dramReady }
          mem := m.mem, out := m.out, pending := m.pending })
    ∧ exec .pcieLinkReset m = .next { State.reset with
        arb := { State.reset.arb with dramReady := m.arb.dramReady }
        mem := m.mem, out := m.out, pending := m.pending }

/-- The DRAM's initialisation, before which nothing is granted; with no client waiting the DRAM port is free once its
burst has been carried out (log 10); the vector mask, its clearing with an owed message, and the message capability.
The model's choices: an owed message does not look at the capability again (log 19). -/
def Obligations.DramAndInterruptConfiguration : Prop :=
  ∀ m : State,
    exec .dramInitComplete m = .next { m with arb := { m.arb with dramReady := true } }
    ∧ (m.arb.dramReady = false → exec .burstGrant m = .next m)
    ∧ (m.arb.dramReady = true → m.arb.choose = none →
        exec .burstGrant m = .next { m with arb := { m.arb with port := none } })
    ∧ exec .vectorMask m = .next { m with ep := { m.ep with vectorMasked := true } }
    ∧ (∀ b, exec (.msiCapabilityChange b) m = .next { m with ep := { m.ep with msiEnabled := b } })
    ∧ exec .vectorUnmask m = .next { m with
        ep := { m.ep with vectorMasked := false }
        notice := { m.notice with owed := false }
        out := { m.out with
          messages := if m.notice.owed = true ∧ m.notice.pending &&& m.notice.enable ≠ 0
            then m.out.messages + 1 else m.out.messages } }

/-! ## The register window -/

/-- DIRBASE: taken in HALTED and FAULTED with bits 31–30 and 11–0 cleared, ignored elsewhere, read back as stored, and
the two orders of a DIRBASE write and a write that raises run. -/
def Obligations.DirbaseRegister : Prop :=
  ∀ (w r : Word) (m : State),
    (m.ctl.device = .halted ∨ m.ctl.device = .faulted →
      exec (.dirbaseWrite w) m = .next { m with ctl := { m.ctl with dirbase := w &&& 0x3FFFF000 } })
    ∧ (m.ctl.device = .loading ∨ m.ctl.device = .running ∨ m.ctl.device = .stopping →
      exec (.dirbaseWrite w) m = .next m)
    ∧ (w &&& 0x3FFFF000).toNat % 4096 = 0 ∧ (w &&& 0x3FFFF000).toNat < 0x40000000
    ∧ m.readWord 0x0C = m.ctl.dirbase
    ∧ (∃ t, exec .powerOnReset m = .next t ∧ t.ctl.dirbase = 0)
    ∧ (r.getLsbD 1 = true → ∃ t, exec (.funcReset r) m = .next t ∧ t.ctl.dirbase = 0)
    ∧ (∃ t, exec .pcieLinkReset m = .next t ∧ t.ctl.dirbase = 0)
    ∧ (r.getLsbD 1 = false → r.getLsbD 0 = true → m.ctl.device = .halted → m.ctl.run = false →
      (∃ t, exec (.dirbaseWrite w) m = .next t ∧ ∃ u, exec (.run r) t = .next u
        ∧ u.ctl.device = .loading ∧ u.ctl.dirbase = w &&& 0x3FFFF000)
      ∧ ∃ t, exec (.run r) m = .next t ∧ t.ctl.device = .loading ∧ t.ctl.dirbase = m.ctl.dirbase
        ∧ exec (.dirbaseWrite w) t = .next t)
    ∧ (m.ctl.load = .toIssue → m.ep.windowAhead = 0 →
      ∃ t, exec .directoryReadIssue m = .next t
        ∧ (t.client (.control 0)).queue
          = (m.client (.control 0)).queue ++ [⟨.directoryRead, m.ctl.dirbase.toNat, .read 64⟩])

/-- A CONTROL write with func_reset 0 sets run, and the device acts on the level: HALTED goes to LOADING with the fault
cause NONE, FAULTED to HALTED with its cause kept; the present value changes nothing; LOADING and STOPPING look at run
later. The model's choices: a load is held for the window bursts before the write, and one that begins at the end of a
halt for those before the write in STOPPING that raised run last (log 16). -/
def Obligations.RunLevel : Prop :=
  ∀ (w : Word) (m : State), w.getLsbD 1 = false →
    (m.ctl.device = .halted → m.ctl.run = false → w.getLsbD 0 = true →
      exec (.run w) m = .next { m with
        ctl := { m.ctl with device := .loading, faultCause := .none, run := true, load := .toIssue }
        ep := { m.ep with windowAhead := (m.client .window).queue.length } })
    ∧ (m.ctl.device = .faulted → m.ctl.run = true → w.getLsbD 0 = false →
      exec (.run w) m = .next { m with ctl := { m.ctl with device := .halted, run := false } })
    ∧ (w.getLsbD 0 = m.ctl.run → exec (.run w) m = .next m)
    ∧ (m.ctl.device = .loading →
      exec (.run w) m = .next { m with ctl := { m.ctl with run := w.getLsbD 0 } })
    ∧ (m.ctl.device = .stopping →
      exec (.run w) m = .next { m with
        ctl := { m.ctl with run := w.getLsbD 0 }
        ep := if w.getLsbD 0 = true ∧ m.ctl.run = false then
          { m.ep with windowAhead := (m.client .window).queue.length } else m.ep })

/-- Run lowered in RUNNING begins the orderly halt: the sweep timer stops and no sweep is owed, every stream is OFF or
DRAINING with no freeze and no adoption, every port OFF or STOPPING, and no bank record loses a hold. With no sweep in
progress every WAITING request is aborted and its owner drops it; with reads or a GRAB outstanding the sweep goes on and
the owners keep their requests and the ports their pending splices (log 18). The status record is written of every
stream that becomes DRAINING or OFF, raising STREAM for OFF, and of every port that becomes STOPPING or OFF or whose
pending splice is dropped in STOPPING. The model's choices: the requests and splices are kept to the end of the sweep,
as R134 has it beside R49 and R115 (log 18); a placement on its way arrives before its stream is stopped (log 9); the
bytes of a record are those at the issue of its write (log 17), and a stream's waits for the catalog writes of the hold
events before it and shows the holds after its own event (log 37). -/
def Obligations.RunLoweredBeginsHalt : Prop :=
  ∀ (w : Word) (m : State), w.getLsbD 1 = false → w.getLsbD 0 = false → m.ctl.device = .running →
    m.ctl.run = true →
    let reads := fun u : Purpose => u.isReturnRead || u.isBoardRead
    let busy := (∃ b ∈ (m.client requestClient).queue, reads b.purpose = true)
      ∨ (∃ g ∈ (m.client requestClient).granted, reads g.burst.purpose = true) ∨ m.req.grabWait ≠ none
    ∃ t, exec (.run w) m = .next t
      ∧ t.ctl = { m.ctl with device := .stopping, run := false }
      ∧ t.req.sweepTimer = none ∧ t.req.sweepPending = false ∧ t.req.halting = true
      ∧ (¬ busy → t.req.sweep = .idle ∧ m.abortsWaiting t)
      ∧ (busy → t.req.sweep = m.req.sweep
          ∧ ((∀ s, (m.stream s).state ≠ .draining → (m.stream s).waitingStop = none) → t.req.inFlight = m.req.inFlight)
          ∧ (∀ s, (m.stream s).state = .draining → (t.stream s).waitingStop = (m.stream s).waitingStop)
          ∧ ∀ p, (m.port p).state ≠ .starting →
              (t.port p).splice = (m.port p).splice ∧ (t.port p).waiting = (m.port p).waiting)
      ∧ (∀ s, (m.stream s).state = .off ∧ (t.stream s).state = .off
          ∨ (m.stream s).state = .draining ∧ (t.stream s).state = .draining
          ∨ (m.stream s).state ≠ .off ∧ (m.stream s).state ≠ .draining ∧ (t.stream s).freeze = .none
            ∧ (t.stream s).state = if (m.filling s).isSome then .draining else .off)
      ∧ (∀ s, (t.stream s).adoption = .none ∧ (t.stream s).seq = (m.stream s).seq
          ∧ (t.stream s).config = (m.stream s).config)
      ∧ (∀ p, (t.port p).counters = (m.port p).counters
          ∧ (t.port p).state = if (m.port p).state = .off ∨ (m.port p).state = .starting then .off else .stopping)
      ∧ (∀ s, (m.publish s).offer = none →
          (t.stream s).counters = (m.stream s).counters ∧ t.publish s = m.publish s
          ∧ ∀ i, t.image s i = m.image s i ∧ (t.bank s i).hold = (m.bank s i).hold
            ∧ (t.bank s i).catalog = (m.bank s i).catalog ∧ (t.bank s i).lastTicket = (m.bank s i).lastTicket)
      ∧ (∀ s i, (m.publish s).offer = some i → (m.stream s).state ≠ .off → (m.stream s).state ≠ .draining →
          (t.publish s).offer = none
          ∧ (if (m.bank s i).state = .valid ∧ (m.bank s i).hold = none ∧ (m.publish s).holds ≠ m.holdLimit s then
              (t.bank s i).hold.isSome = true ∧ (t.bank s i).state = .valid
              ∧ (t.publish s).holds = (m.publish s).holds + 1 ∧ (t.stream s).counters = (m.stream s).counters
            else (t.bank s i).hold = (m.bank s i).hold ∧ (t.publish s).holds = (m.publish s).holds
              ∧ (t.stream s).counters.publishMissed = (m.stream s).counters.publishMissed + 1))
      ∧ (∀ s, (m.stream s).state = .off ∨ (m.stream s).state = .draining → m.reportsStatus t s none)
      ∧ (m.ClaimsAgree → ∀ s, (m.stream s).state ≠ .off → (m.stream s).state ≠ .draining →
          let accepted := ∃ i, (m.publish s).offer = some i ∧ (m.bank s i).state = .valid ∧ (m.bank s i).hold = none
            ∧ (m.publish s).holds ≠ m.holdLimit s
          let stop : StatusReport :=
            ⟨(t.stream s).state, (t.stream s).freeze, decide ((t.stream s).state = .off), t.bx.heldCount s, false⟩
          (¬ accepted → m.statusWrites t s (m.reports[s] ++ [stop]))
          ∧ (accepted → m.statusWrites t s (m.reports[s]
              ++ [⟨(m.stream s).state, (m.stream s).freeze, false, m.bx.heldCount s + 1, true⟩, stop])))
      ∧ (∀ p, m.clientIssues t (portClient p)
          (if (m.port p).state = .off ∨ (m.port p).state = .stopping ∧ ((m.port p).splice = none ∨ busy) then []
            else t.statusOfPort p 0))
      ∧ t.mem = m.mem ∧ t.time = m.time ∧ t.notice = m.notice ∧ t.ep = m.ep ∧ t.out = m.out

/-- NUDGE in RUNNING is held until the WINDOW bursts received before it are granted, and its release before that is no
step; in every other state it is ignored. Once released in RUNNING the trigger begins a sweep, or is owed as one further
sweep; in STOPPING it is ignored. The model's choices: a NUDGE looks at RUNNING at its write and at its release (log
15); a release with no NUDGE held changes nothing (log 1). -/
def Obligations.NudgeTriggersSweep : Prop :=
  ∀ (w : Word) (m : State),
    (m.ctl.device = .running →
      exec (.nudge w) m = .next { m with
        ep := { m.ep with heldNudges := m.ep.heldNudges ++ [(m.client .window).queue.length] } })
    ∧ (m.ctl.device ≠ .running → exec (.nudge w) m = .next m)
    ∧ (∀ k rest, m.ep.heldNudges = k :: rest → k ≠ 0 → exec .nudgeTriggerRelease m = .next m)
    ∧ (m.ep.heldNudges = [] → exec .nudgeTriggerRelease m = .next m)
    ∧ (∀ rest, m.ep.heldNudges = 0 :: rest →
      (m.ctl.device = .running → m.req.halting = false → m.req.sweep ≠ .idle →
        exec .nudgeTriggerRelease m = .next { m with
          ep := { m.ep with heldNudges := rest }, req := { m.req with sweepPending := true } })
      ∧ (m.ctl.device = .running → m.req.halting = false → m.req.sweep = .idle →
        ∃ t, exec .nudgeTriggerRelease m = .next t
          ∧ (t.req.sweep = .returns ∨ t.req.sweep = .board) ∧ t.req.sweepPending = false
          ∧ t.ep = { m.ep with heldNudges := rest }
          ∧ { t with ep := m.ep, req := m.req, arb := m.arb } = m)
      ∧ (m.ctl.device ≠ .running ∨ m.req.halting = true →
        exec .nudgeTriggerRelease m = .next { m with ep := { m.ep with heldNudges := rest } }))

/-- A write of NOTICE_PENDING removes the kinds it names and a write of NOTICE_ENABLE replaces the enable set; the
interrupt condition is evaluated again: from false to true it asks for one message, to false it clears message owed, and
otherwise nothing is asked for. -/
def Obligations.NoticeRegisterWrites : Prop :=
  ∀ (w : Word) (m : State),
    let pend := m.notice.pending &&& ~~~(w.setWidth 6)
    let after := fun (c : Instr) (p e : BitVec 6) =>
      ∃ t, exec c m = .next t ∧ t.notice.pending = p ∧ t.notice.enable = e
        ∧ t.notice.counts = m.notice.counts ∧ t.notice.mirror = m.notice.mirror
        ∧ { t with notice := m.notice, out := m.out } = m
        ∧ t.out = { m.out with messages := t.out.messages }
        ∧ (t.out.messages = if ¬ (m.notice.pending &&& m.notice.enable ≠ 0) ∧ p &&& e ≠ 0
              ∧ m.ep.msiEnabled = true ∧ m.ep.vectorMasked = false
            then m.out.messages + 1 else m.out.messages)
        ∧ (t.notice.owed =
            if m.notice.pending &&& m.notice.enable ≠ 0 then (if p &&& e ≠ 0 then m.notice.owed else false)
            else if p &&& e ≠ 0 ∧ m.ep.msiEnabled = true ∧ m.ep.vectorMasked = true then true
            else m.notice.owed)
    after (.noticePendingWrite w) pend m.notice.enable ∧ after (.noticeEnableWrite w) m.notice.pending (w.setWidth 6)

/-- The words that a read of the register window returns, the bytes that a read of 1, 2, 4 or 8 bytes returns, and that
a read which takes in TIME_LO, which is TIME_LO_READ, latches the high half of the timebase, so that TIME_HI after it or
in the same read makes one 64-bit value with it. A write to a read-only word or an undecoded offset, and a write of part
of a word, changes nothing. The model's choices: bits 7–0 of a word lie at its own offset (log 41); so does a write of 8
bytes not at a word or of another size (log 38); a read of part of TIME_LO latches as well (log 39). -/
def Obligations.RegisterReadsAndIgnoredWrites : Prop :=
  ∀ m : State,
    let latched := { m with time := { m.time with latch := (m.time.count >>> 32).setWidth 32 } }
    m.readWord 0x00 = 0x6A108401
    ∧ (m.readWord 0x04).toNat = (if m.ctl.run = true then 1 else 0)
    ∧ (m.readWord 0x08).toNat =
        (match m.ctl.device with
          | .halted => 0 | .loading => 1 | .running => 2 | .stopping => 3 | .faulted => 4)
        + 256 * (match m.ctl.faultCause with
          | .none => 0 | .badMark => 1 | .badVersion => 2 | .badRegion => 3 | .regionOverlap => 4 | .badSlotCount => 5
          | .badPeriod => 6)
    ∧ m.readWord 0x0C = m.ctl.dirbase ∧ m.readWord 0x10 = 0
    ∧ (m.readWord 0x14).toNat = m.notice.pending.toNat ∧ (m.readWord 0x18).toNat = m.notice.enable.toNat
    ∧ m.readWord 0x1C = m.time.count.setWidth 32 ∧ m.readWord 0x20 = m.time.latch
    ∧ (∀ off, 0x24 ≤ off → m.readWord off = 0)
    ∧ (∀ (off size : Nat) (v : Dword), ignoredWrite off size = true →
        exec (.registerWriteIgnored off size v) m = .next m)
    ∧ (∀ off size, 1 ≤ size → off % 4 + size ≤ 4 →
        let word := off / 4 * 4
        let r := m.readRegister off size
        r.1 = (if word = 0x1C then latched else m) ∧ r.2.length = size
        ∧ leNat r.2 = (m.readWord word).toNat / 256 ^ (off % 4) % 256 ^ size)
    ∧ (∀ off, off % 4 = 0 →
        let r := m.readRegister off 8
        r.1 = (if off = 0x18 ∨ off = 0x1C then latched else m) ∧ r.2.length = 8
        ∧ leNat r.2 = (if off = 0x1C then m.time.count.toNat
            else (m.readWord off).toNat + 2 ^ 32 * (m.readWord (off + 4)).toNat))
    ∧ (∀ off size, timeLoReadOk off size = true →
        exec (.timeLoRead off size) m
          = .next { latched with out := { m.out with timeRead := (m.readRegister off size).2 } })
    ∧ ∃ t, exec (.timeLoRead 0x1C 4) m = .next t
      ∧ leNat t.out.timeRead + 2 ^ 32 * (t.readWord 0x20).toNat = m.time.count.toNat

/-! ## The exchange window and the memory arbiter -/

/-- A host access inside the window is queued as WINDOW bursts at the end of the WINDOW client's queue, in every device
state; one outside it addresses nothing and stops (log 26). The data of the oldest granted window read goes to the host
and the burst is over. The model's choices: the data of a split read goes to the host burst by burst (log 40). -/
def Obligations.WindowAccesses : Prop :=
  ∀ m : State,
    (∀ a : WindowAccess, a.wellFormed = true →
      exec (.exchangeWindowAccess a) m = .next { m with arb := { m.arb with
        window := { m.arb.window with queue := m.arb.window.queue ++ windowBursts a } } })
    ∧ (∀ a : WindowAccess, a.wellFormed = false →
        exec (.exchangeWindowAccess a) m = .fault .outsideExchangeWindow)
    ∧ ∀ g : Granted, (m.client .window).granted.head? = some g →
      ∃ t, exec .windowReadComplete m = .next t
        ∧ t.out = { m.out with windowRead := some (g.burst.addr, g.data) }
        ∧ t.client .window = { m.client .window with granted := (m.client .window).granted.tail }
        ∧ m.otherClientsSame t [.window] ∧ { t with out := m.out, arb := m.arb } = m

/-- The pieces of an access: each lies within one aligned 256-byte block and holds 1 to 256 bytes, and together they are
the bytes of the access in ascending order; it is split at 256-byte boundaries alone, so that an access within one block
is one burst; a write's pieces carry its bytes. -/
def Obligations.WindowPiecesSplit : Prop :=
  (∀ addr len : Nat, 1 ≤ len →
    (∀ q ∈ windowPieces addr len, 1 ≤ q.2 ∧ q.2 ≤ 256 ∧ q.1 / 256 = (q.1 + q.2 - 1) / 256)
    ∧ (∀ q ∈ windowPieces addr len, q.1 = addr ∨ q.1 % 256 = 0)
    ∧ (addr / 256 = (addr + len - 1) / 256 → windowPieces addr len = [(addr, len)])
    ∧ (windowPieces addr len).flatMap (fun q => List.range' q.1 q.2) = List.range' addr len
    ∧ (windowBursts (.read addr len)).map (fun b => (b.addr, b.access))
      = (windowPieces addr len).map (fun q => (q.1, .read q.2)))
  ∧ ∀ (addr : Nat) (bs : List Byte), bs ≠ [] →
    (windowBursts (.write addr bs)).map (fun b => (b.addr, b.access.size)) = windowPieces addr bs.length
    ∧ (windowBursts (.write addr bs)).flatMap
        (fun b => match b.access with | .write x => x | .read _ | .writeCounts => []) = bs

/-- The class of a grant: CONTROL when its floor is due, else WINDOW when its floor is due, else the highest waiting
class; within the class, the first waiting client from the rotation pointer upward, wrapping. -/
def Obligations.ArbiterChoice : Prop :=
  ∀ a : Arbiter,
    let scan := ∃ p, (a.client (.scan p)).queue ≠ []
    let capture := ∃ s, (a.client (.capture s)).queue ≠ []
    let control := ∃ k, (a.client (.control k)).queue ≠ []
    let window := (a.client .window).queue ≠ []
    (a.choose = none ↔ ¬ scan ∧ ¬ capture ∧ ¬ control ∧ ¬ window)
    ∧ ∀ c, a.choose = some c →
      (a.client c).queue ≠ []
      ∧ (control → a.controlFloor = 7 → c.cls = .control)
      ∧ (¬ (control ∧ a.controlFloor = 7) → window → a.windowFloor = 15 → c.cls = .window)
      ∧ (¬ (control ∧ a.controlFloor = 7) → ¬ (window ∧ a.windowFloor = 15) →
          (scan → c.cls = .scan) ∧ (¬ scan → capture → c.cls = .capture)
          ∧ (¬ scan → ¬ capture → control → c.cls = .control))
      ∧ (∀ k, c = .scan k → ∀ j : Fin 4, (j - a.rotScan).val < (k - a.rotScan).val → (a.client (.scan j)).queue = [])
      ∧ (∀ k, c = .capture k → ∀ j : Fin 8,
          (j - a.rotCapture).val < (k - a.rotCapture).val → (a.client (.capture j)).queue = [])
      ∧ (∀ k, c = .control k → ∀ j : Fin 16,
          (j - a.rotControl).val < (k - a.rotControl).val → (a.client (.control j)).queue = [])

/-- A grant takes the chosen client's oldest burst from its queue and acts on exchange memory whole: a write changes its
bytes and no other, a read changes none and is given the bytes that memory holds; the burst occupies the DRAM port
and, if its purpose is one whose completion is a command, waits for it; the granted client's rotation pointer moves
past it, and everything outside the arbiter, memory and what the grant does at its own client stays, which is nothing
for SCAN and for CONTROL but the count record. The model's choices: a burst with no completion in the table is over at
its grant (log 10). -/
def Obligations.GrantActsWhole : Prop :=
  ∀ (m : State) (c : ClientId) (b : Burst) (rest : List Burst),
    m.arb.dramReady = true → Memory.wf m.mem = true → m.arb.choose = some c → (m.client c).queue = b :: rest →
    b.addr + b.access.size ≤ Config.memorySize →
    let completes := (∃ row, b.purpose = .scanRow row) ∨ b.purpose = .directoryRead ∨ b.purpose = .statusInit true
      ∨ (∃ s i, b.purpose = .returnRead s i) ∨ (∃ first, b.purpose = .boardRead first)
      ∨ (∃ n, b.purpose = .answerWrite n) ∨ (∃ s i ev, b.purpose = .catalogWrite s i ev) ∨ b.purpose = .countRecord
      ∨ b.purpose = .streamRecordRead ∨ (∃ notice, b.purpose = .streamStatus notice) ∨ b.purpose = .cueRead
      ∨ (∃ k, b.purpose = .portStatus k) ∨ b.purpose = .window ∧ ∃ n, b.access = .read n
    ∃ t, exec .burstGrant m = .next t
      ∧ (t.client c).queue = rest ∧ (∀ d, d ≠ c → t.client d = m.client d)
      ∧ (∃ k, t.arb.port = some ⟨c, k⟩ ∧ (k = true ↔ completes))
      ∧ (c.cls = .scan ∨ c.cls = .control → b.purpose ≠ .countRecord →
          t.capture = m.capture ∧ t.notice = m.notice ∧ t.ep = m.ep)
      ∧ (∀ n, b.access = .read n → t.mem = m.mem)
      ∧ (∀ bs, b.access = .write bs →
          ∀ a, Memory.read t.mem a
            = if b.addr ≤ a then (bs[a - b.addr]?).getD (Memory.read m.mem a) else Memory.read m.mem a)
      ∧ (b.access = .writeCounts →
          ∀ a, Memory.read t.mem a
            = if b.addr ≤ a then ((countRecordBytes m.notice.counts)[a - b.addr]?).getD (Memory.read m.mem a)
              else Memory.read m.mem a)
      ∧ (completes →
          (t.client c).granted.take (m.client c).granted.length = (m.client c).granted
          ∧ ((t.client c).granted.drop (m.client c).granted.length).map (fun g => (g.burst, g.discarded)) = [(b, false)]
          ∧ (∀ n, b.access = .read n →
              ((t.client c).granted.drop (m.client c).granted.length).map (·.data) = [Memory.readBytes m.mem b.addr n])
          ∧ ∀ first, b.purpose = .boardRead first →
              ((t.client c).granted.drop (m.client c).granted.length).map (·.marks)
                = [(List.range (b.access.size / 128)).map fun k => (m.req.inFlight[first + k]?.join).isSome])
      ∧ (¬ completes → (t.client c).granted = (m.client c).granted)
      ∧ (∀ k, c = .scan k → t.arb.rotScan = k + 1) ∧ (∀ k, c = .capture k → t.arb.rotCapture = k + 1)
      ∧ (∀ k, c = .control k → t.arb.rotControl = k + 1)
      ∧ (c.cls ≠ .scan → t.arb.rotScan = m.arb.rotScan) ∧ (c.cls ≠ .capture → t.arb.rotCapture = m.arb.rotCapture)
      ∧ (c.cls ≠ .control → t.arb.rotControl = m.arb.rotControl)
      ∧ { t with arb := m.arb, mem := m.mem, capture := m.capture, notice := m.notice, ep := m.ep } = m

/-- What a grant does to the floor counts, by its class, and at its client: the count record's makes the mirror write
ISSUED, a WINDOW burst is no longer ahead of a held NUDGE or directory read, and the last burst of a line, one that
has ended or whose written part has all been issued, frees the line's entry and no other. A burst that reaches
outside exchange memory has no address to go to and stops (log 26). -/
def Obligations.GrantMovesFloorsAndClient : Prop :=
  ∀ (m : State) (c : ClientId) (b : Burst) (rest : List Burst),
    m.arb.dramReady = true → m.arb.choose = some c → (m.client c).queue = b :: rest →
    let window := (m.client .window).queue ≠ []
    let control := ∃ k : Fin 16, (m.client (.control k)).queue ≠ []
    (Config.memorySize < b.addr + b.access.size → exec .burstGrant m = .fault .outsideExchangeMemory)
    ∧ (b.addr + b.access.size ≤ Config.memorySize →
      ∃ t, exec .burstGrant m = .next t
        ∧ t.arb.windowFloor = (if c.cls ≠ .window ∧ window then min (m.arb.windowFloor + 1) 15 else 0)
        ∧ t.arb.controlFloor = (if c.cls ≠ .control ∧ control then min (m.arb.controlFloor + 1) 7 else 0)
        ∧ (c = .control 3 → b.purpose = .countRecord →
            t.notice = { m.notice with mirror := .issued } ∧ t.capture = m.capture ∧ t.ep = m.ep)
        ∧ (c = .window → b.purpose = .window →
            t.ep = { m.ep with heldNudges := m.ep.heldNudges.map (· - 1), windowAhead := m.ep.windowAhead - 1 }
            ∧ t.notice = m.notice ∧ t.capture = m.capture)
        ∧ (∀ (s : StreamId) (r : Nat), c = .capture s → b.purpose = .captureLine r →
            t.notice = m.notice ∧ t.ep = m.ep ∧ (∀ k, k ≠ s → t.cport k = m.cport k)
            ∧ (t.cport s).openLine = (m.cport s).openLine ∧ (t.cport s).waiting = (m.cport s).waiting
            ∧ ∀ e : Fin 2, (t.cport s).buffer[e] =
                match (m.cport s).buffer[e] with
                | none => none
                | some l =>
                  if l.row = r ∧ (∀ x ∈ rest, x.purpose ≠ .captureLine r)
                    ∧ (l.ended = true ∨ l.rest = [] ∧ l.restOffset
                        = (m.bx.geom s).width.toNat * (m.bx.geom s).format.bytesPerPixel)
                  then none else some l))

/-- No command but a burst grant and a power-on reset changes exchange memory. -/
def Obligations.OnlyGrantsWriteMemory : Prop :=
  ∀ (c : Instr) (m t : State), c ≠ .burstGrant → c ≠ .powerOnReset → exec c m = .next t → t.mem = m.mem

/-! ## The writer and the fate of a frame -/

/-- The writer's bank: among the banks of the set that are neither FILLING nor claimed nor held, the EMPTY one with the
lowest index, else the VALID one with the lowest seq, else none. -/
def Obligations.WriterChoosesBank : Prop :=
  ∀ (x : BankExchange) (s : StreamId),
    let free := fun i : BankIx => x.inSet s i = true ∧ (x.bank s i).state ≠ .filling
      ∧ (∀ p : PortId, x.claims[p] ≠ some (s, i)) ∧ (x.bank s i).hold = none
    (x.writerChoice s = none ↔ ∀ i, ¬ free i)
    ∧ ∀ i, x.writerChoice s = some i → free i
      ∧ ((x.bank s i).state = .empty → ∀ j, free j → (x.bank s j).state = .empty → i ≤ j)
      ∧ ((x.bank s i).state ≠ .empty → ∀ j, free j →
          (x.bank s j).state = .valid ∧ (x.bank s i).seq.toNat ≤ (x.bank s j).seq.toNat)

/-- The number of candidates is at least bank_count less the holds and less the ports that claim a bank of the stream;
so with hold_limit at most bank_count − 2 a stream that no port shows has two candidates and one that a single port
shows has one. -/
def Obligations.WriterCandidateBound : Prop :=
  ∀ (m : State) (s : StreamId) (g : Geometry),
    m.bx.geometry[s] = some g → g.bankCount.toNat ≤ 8 → m.filling s = none → m.HoldAccounts →
    g.bankCount.toNat ≤ m.bx.candidateCount s + (m.publish s).holds + m.bx.claimCount s
    ∧ (m.holdLimit s + 2 ≤ g.bankCount.toNat → m.bx.claimCount s = 0 → 2 ≤ m.bx.candidateCount s)
    ∧ (m.holdLimit s + 2 ≤ g.bankCount.toNat → m.bx.claimCount s = 1 → ∃ i, m.bx.writerChoice s = some i)

/-- A frame start of a stream in SEEKING, LIVE or LOST with nothing FILLING and no placement on its way (for which see
PublicationAtCompletion), its marker decoded with nothing waiting, or, with the capture time that it waited with, at the
front of what waits: seq and arrived grow by one, the stream is LIVE, the loss timer restarts, and the frame is frozen,
decimated, granted a bank or dropped. A status record is written when the stream becomes LIVE. The model's choices:
which of the two comes about is given with the command (log 8); the bytes of a record are those at the issue of its
write (log 17), which waits for the catalog writes of the hold events before it and shows the holds after its own event
(log 37). -/
def Obligations.FrameStartClassifiesFrame : Prop :=
  ∀ (s : StreamId) (cfg : StreamConfig) (waited : Bool) (time : Dword) (rest : List LinkEvent) (m : State),
    m.presentsStart s waited time rest → (m.stream s).config = some cfg → m.filling s = none → (m.publish s).offer = none →
    (m.stream s).state = .seeking ∨ (m.stream s).state = .live ∨ (m.stream s).state = .lost →
    ∃ t, exec (.frameStart ⟨s, waited⟩) m = .next t ∧ m.startsFrame t s cfg time
      ∧ (∀ k, k ≠ s → t.stream k = m.stream k)
      ∧ (t.cport s).buffer = (m.cport s).buffer ∧ (t.cport s).waiting = rest ∧ (∀ k, k ≠ s → t.cport k = m.cport k)
      ∧ m.reportsStatus t s (if (m.stream s).state = .live then none else some true)
      ∧ m.otherReportsSame t s ∧ m.otherClientsSame t [streamClient s] ∧ t.arb.port = m.arb.port
      ∧ { t with streams := m.streams, reports := m.reports, bx := m.bx, capture := m.capture, arb := m.arb } = m

/-- A frame start that finds a frame FILLING breaks it: INTERRUPTED in LIVE, and the new frame is then classified in the
banks that the break left, frozen if a freeze was PENDING; DRAIN_CUT in DRAINING, with no frame counted and the stream
OFF, as its status record reports. A frame start decoded behind a waiting frame end waits with its capture time; one
decoded behind frame starts alone is presented after them; an OFF stream's is discarded. The model's choices: which of a
frame start decoded now and one that waits comes about is given with the command, and one that does not wait changes
nothing (log 1, log 8); frame starts that still wait are presented in the step in which the next one is decoded (log 8);
the bytes of a record are those at the issue of its write (log 17), which waits for the catalog writes of the hold
events before it and shows the holds after its own event (log 37). -/
def Obligations.FrameStartBreaksFrame : Prop :=
  ∀ (s : StreamId) (m : State),
    let old := m.stream s
    (∀ (i : BankIx) (cfg : StreamConfig) (waited : Bool) (time : Dword) (rest : List LinkEvent),
      m.presentsStart s waited time rest → old.config = some cfg → m.filling s = some i → old.state = .live →
      (m.publish s).offer = none →
      ∃ t, exec (.frameStart ⟨s, waited⟩) m = .next t ∧ m.interruptsFrame t s i cfg time
        ∧ (t.cport s).waiting = rest
        ∧ m.otherReportsSame t s
        ∧ (∀ k, k ≠ s → t.stream k = m.stream k ∧ t.cport k = m.cport k ∧ ∀ j, t.bank k j = m.bank k j)
        ∧ { t with
            streams := m.streams, reports := m.reports, bx := m.bx, capture := m.capture, arb := m.arb
            req := m.req } = m)
    ∧ (∀ (i : BankIx) (waited : Bool) (time : Dword) (rest : List LinkEvent),
      m.presentsStart s waited time rest → m.filling s = some i → old.state = .draining →
      ∃ t, exec (.frameStart ⟨s, waited⟩) m = .next t ∧ (t.cport s).waiting = []
        ∧ (t.stream s).state = .off ∧ (t.stream s).seq = old.seq ∧ (t.stream s).lossTimer = none
        ∧ (t.stream s).freeze = .none ∧ (t.stream s).lastBroken = .drainCut
        ∧ (t.stream s).counters = { old.counters with broken := old.counters.broken + 1 }
        ∧ (t.bank s i).state = .empty ∧ (t.stream s).waitingStop = none
        ∧ (∀ n, old.waitingStop = some n → t.req = (m.report n (.done [])).req)
        ∧ (t.client (.capture s)).queue = []
        ∧ m.reportsStatus t s (some true) ∧ m.otherReportsSame t s
        ∧ (∀ k, k ≠ s → t.stream k = m.stream k ∧ t.cport k = m.cport k ∧ ∀ j, t.bank k j = m.bank k j)
        ∧ { t with
            streams := m.streams, reports := m.reports, bx := m.bx, capture := m.capture, arb := m.arb
            req := m.req } = m)
    ∧ (.frameEnd ∈ (m.cport s).waiting → old.state ≠ .off →
      ∃ t, exec (.frameStart ⟨s, false⟩) m = .next t
        ∧ (t.cport s).waiting = (m.cport s).waiting ++ [.frameStart m.now]
        ∧ (t.cport s).buffer = (m.cport s).buffer ∧ (∀ k, k ≠ s → t.cport k = m.cport k)
        ∧ { t with capture := m.capture } = m)
    ∧ m.startsGoFirst s (.frameStart ⟨s, false⟩)
    ∧ ((∀ x, (m.cport s).waiting.head? ≠ some (.frameStart x)) → exec (.frameStart ⟨s, true⟩) m = .next m)
    ∧ (old.state = .off → ∀ waited, exec (.frameStart ⟨s, waited⟩) m = .next m)

/-- The first pixel of a line of the FILLING frame, with no frame end waiting: a line numbered below height takes the
first FREE entry, and each whole 256-byte piece received of its written part is queued as a burst at its row's address;
a line numbered height or more takes none; with no FREE entry the line overruns: the frame is broken with cause OVERRUN
and its queued bursts are withdrawn, and a DRAINING stream is OFF, as its status record reports, and its STOP_STREAM
answered DONE; a PENDING freeze is ACTIVE and its HOLD_STREAM answered DONE. With nothing FILLING, or behind a frame
end, the line is discarded, and an OFF stream's changes nothing. Frame starts that wait with no frame end are presented
before a line that begins. Further pixels of the line being received join what its entry holds, up to width, and the
pieces that they make whole are queued; those of a discarded line change nothing. The model's choices: frame starts that
still wait are presented in the step of the LINE_START (log 8); the pixels of a line come with one LINE_START or more,
and one with no whole pixel begins no line of the FILLING frame (log 6); those of a line that a frame end marker came
into join its entry like any other's (log 36); the bytes of a record are those at the issue of its write (log 17), which
waits for the catalog writes of the hold events before it and shows the holds after its own event (log 37). -/
def Obligations.LineStartTakesEntryOrOverruns : Prop :=
  ∀ (s : StreamId) (px : List Byte) (m : State),
    let old := m.stream s
    let g := m.bx.geom s
    let n := px.length / g.format.bytesPerPixel
    let r := old.lineCount.toNat
    let bytes := px.take (min n g.width.toNat * g.format.bytesPerPixel)
    let whole := px.take (n * g.format.bytesPerPixel)
    (old.state = .off → exec (.lineStart s px) m = .next m)
    ∧ (old.state ≠ .off →
      ((m.cport s).openLine = none → ∀ i : BankIx, m.filling s = some i → (m.cport s).waiting = [] → 1 ≤ n →
        (g.height.toNat ≤ r →
          ∃ t, exec (.lineStart s px) m = .next t
            ∧ t.cport s = { m.cport s with openLine := some ⟨n, none, false⟩ } ∧ (∀ k, k ≠ s → t.cport k = m.cport k)
            ∧ { t with capture := m.capture } = m)
        ∧ (∀ e : Fin 2, r < g.height.toNat → (m.cport s).buffer[e] = none →
            (e = 1 → (m.cport s).buffer[(0 : Fin 2)] ≠ none) →
          ∃ t, exec (.lineStart s px) m = .next t
            ∧ t.cport s = { m.cport s with
                buffer := (m.cport s).buffer.set e
                  (some ⟨r, bytes.drop (bytes.length / 256 * 256), bytes.length / 256 * 256, false⟩)
                openLine := some ⟨n, some e, false⟩ }
            ∧ (∀ k, k ≠ s → t.cport k = m.cport k)
            ∧ t.arb = m.arb.issueAll (.capture s) ((List.range (bytes.length / 256)).map fun k =>
                ⟨.captureLine r,
                  g.bankBase.toNat + i.val * ((g.pitch.toNat * g.height.toNat + 4095) / 4096 * 4096)
                    + r * g.pitch.toNat + k * 256,
                  .write ((bytes.drop (k * 256)).take 256)⟩)
            ∧ { t with capture := m.capture, arb := m.arb } = m)
        ∧ (r < g.height.toNat → (∀ e : Fin 2, (m.cport s).buffer[e] ≠ none) →
          ∃ t, exec (.lineStart s px) m = .next t
            ∧ (t.bank s i).state = .empty ∧ (∀ j, j ≠ i → (t.bank s j).hold = (m.bank s j).hold)
            ∧ (t.stream s).counters = { old.counters with broken := old.counters.broken + 1 }
            ∧ (t.stream s).lastBroken = .overrun
            ∧ (t.stream s).state = (if old.state = .draining then .off else old.state)
            ∧ (old.state ≠ .draining → (t.stream s).freeze = if old.freeze = .pending then .active else old.freeze)
            ∧ (t.client (.capture s)).queue = [] ∧ (t.cport s).buffer = #v[none, none]
            ∧ (∀ n, old.state = .draining → old.waitingStop = some n →
                (t.stream s).waitingStop = none ∧ m.endsHeld t n (.done []))
            ∧ (∀ n, old.state ≠ .draining → old.freeze = .pending → old.waitingHold = some n →
                (t.stream s).waitingHold = none ∧ m.endsHeld t n (.done []))
            ∧ m.reportsStatus t s
                (if old.state = .draining then some true else if old.freeze = .pending then some false else none)
            ∧ m.otherReportsSame t s
            ∧ (∀ k, k ≠ s → t.stream k = m.stream k ∧ t.cport k = m.cport k ∧ ∀ j, t.bank k j = m.bank k j)
            ∧ { t with
                streams := m.streams, reports := m.reports, bx := m.bx, capture := m.capture, arb := m.arb
                req := m.req } = m))
      ∧ ((m.cport s).openLine = none → m.filling s ≠ none → (m.cport s).waiting = [] → n = 0 →
        exec (.lineStart s px) m = .next m)
      ∧ ((m.cport s).openLine = none → m.startsGoFirst s (.lineStart s px))
      ∧ ((m.cport s).receiving = false →
          m.filling s = none ∧ (m.cport s).waiting = [] ∨ .frameEnd ∈ (m.cport s).waiting →
        ∃ t, exec (.lineStart s px) m = .next t ∧ (t.cport s).buffer = (m.cport s).buffer
          ∧ (t.cport s).waiting = (m.cport s).waiting ∧ (∀ k, k ≠ s → t.cport k = m.cport k)
          ∧ { t with capture := m.capture } = m)
      ∧ (∀ l : OpenLine, (m.cport s).openLine = some l → l.discarded = true → exec (.lineStart s px) m = .next m)
      ∧ (∀ k : Nat, (m.cport s).openLine = some ⟨k, none, false⟩ → m.filling s ≠ none →
        ∃ t, exec (.lineStart s px) m = .next t
          ∧ t.cport s = { m.cport s with openLine := some ⟨k + n, none, false⟩ } ∧ (∀ k, k ≠ s → t.cport k = m.cport k)
          ∧ { t with capture := m.capture } = m)
      ∧ ∀ (k : Nat) (e : Fin 2) (i : BankIx), (m.cport s).openLine = some ⟨k, some e, false⟩ → m.filling s = some i →
        ((m.cport s).buffer[e] = none →
          ∃ t, exec (.lineStart s px) m = .next t
            ∧ t.cport s = { m.cport s with openLine := some ⟨k + n, some e, false⟩ }
            ∧ (∀ k, k ≠ s → t.cport k = m.cport k) ∧ { t with capture := m.capture } = m)
        ∧ ∀ l : BufferedLine, (m.cport s).buffer[e] = some l →
          let data := l.rest
            ++ whole.take (g.width.toNat * g.format.bytesPerPixel - (l.restOffset + l.rest.length))
          ∃ t, exec (.lineStart s px) m = .next t
            ∧ t.cport s = { m.cport s with
                buffer := (m.cport s).buffer.set e (some { l with
                  rest := data.drop (data.length / 256 * 256), restOffset := l.restOffset + data.length / 256 * 256 })
                openLine := some ⟨k + n, some e, false⟩ }
            ∧ (∀ k, k ≠ s → t.cport k = m.cport k)
            ∧ t.arb = m.arb.issueAll (.capture s) ((List.range (data.length / 256)).map fun k =>
                ⟨.captureLine l.row,
                  g.bankBase.toNat + i.val * ((g.pitch.toNat * g.height.toNat + 4095) / 4096 * 4096)
                    + l.row * g.pitch.toNat + (l.restOffset + k * 256),
                  .write ((data.drop (k * 256)).take 256)⟩)
            ∧ { t with capture := m.capture, arb := m.arb } = m)

/-- The end of a line of the FILLING frame: the line counts, saturating at 65535, TRUNCATED is set by a line too long or
numbered height or more and NARROW by one too short, and the remainder of the line's bytes is queued as one burst; with
no burst of the line left to be granted its entry is FREE, and an entry that became FREE before stays so. Frame starts
that wait with no frame end are presented before a line of 0 pixels, which is discarded with nothing FILLING and while a
frame end waits. The end of a discarded line, or of one with nothing FILLING, only ends it, and in OFF nothing changes.
The model's choices: frame starts that still wait are presented in the step of the LINE_END (log 8); a line end without
a first pixel ends a line of 0 pixels (log 33); the end of a line that a frame end marker came into counts (log 36). -/
def Obligations.LineEndCountsLine : Prop :=
  ∀ (s : StreamId) (i : BankIx) (n : Nat) (e : Option (Fin 2)) (m : State),
    let old := m.stream s
    let g := m.bx.geom s
    let r := old.lineCount.toNat
    let counted := fun t : State =>
      t.stream s = { old with
        lineCount := if r = 65535 then old.lineCount else old.lineCount + 1
        lineFlags := ⟨old.lineFlags.truncated || decide (g.height.toNat ≤ r ∨ g.width.toNat < n),
          old.lineFlags.narrow || decide (r < g.height.toNat ∧ n < g.width.toNat)⟩ }
      ∧ (∀ k, k ≠ s → t.stream k = m.stream k ∧ t.cport k = m.cport k) ∧ (t.cport s).openLine = none
      ∧ (t.cport s).waiting = (m.cport s).waiting
      ∧ { t with streams := m.streams, capture := m.capture, arb := m.arb } = m
    ((m.cport s).openLine = none → m.startsGoFirst s (.lineEnd s))
    ∧ ((m.cport s).openLine = none →
        m.filling s = none ∧ (m.cport s).waiting = [] ∨ .frameEnd ∈ (m.cport s).waiting →
        exec (.lineEnd s) m = .next m)
    ∧ (old.state = .off → exec (.lineEnd s) m = .next m)
    ∧ (∀ l : OpenLine, old.state ≠ .off → (m.cport s).openLine = some l → l.discarded = true ∨ m.filling s = none →
        exec (.lineEnd s) m = .next { m with capture := m.capture.set s { m.cport s with openLine := none } })
    ∧ (old.state ≠ .off → m.filling s = some i →
      ((m.cport s).openLine = some ⟨n, none, false⟩ →
        ∃ t, exec (.lineEnd s) m = .next t ∧ counted t ∧ (t.cport s).buffer = (m.cport s).buffer ∧ t.arb = m.arb)
      ∧ ((m.cport s).openLine = none → (m.cport s).waiting = [] → n = 0 →
        ∃ t, exec (.lineEnd s) m = .next t ∧ counted t ∧ t.cport s = m.cport s ∧ t.arb = m.arb)
      ∧ (∀ d : Fin 2, e = some d → (m.cport s).openLine = some ⟨n, e, false⟩ → (m.cport s).buffer[d] = none →
        ∃ t, exec (.lineEnd s) m = .next t ∧ counted t ∧ (t.cport s).buffer = (m.cport s).buffer ∧ t.arb = m.arb)
      ∧ (∀ (d : Fin 2) (l : BufferedLine), e = some d → (m.cport s).openLine = some ⟨n, e, false⟩ →
          (m.cport s).buffer[d] = some l →
        ∃ t, exec (.lineEnd s) m = .next t ∧ counted t
          ∧ t.arb = (if l.rest = [] then m.arb else
              m.arb.issueAll (.capture s)
                [⟨.captureLine l.row,
                  g.bankBase.toNat + i.val * ((g.pitch.toNat * g.height.toNat + 4095) / 4096 * 4096)
                    + l.row * g.pitch.toNat + l.restOffset, .write l.rest⟩])
          ∧ (t.cport s).buffer = (m.cport s).buffer.set d
              (if l.rest = [] ∧ ∀ b ∈ (m.client (.capture s)).queue, b.purpose ≠ .captureLine l.row then none
                else some { l with rest := [], ended := true })))

/-- A frame end marker waits behind what waits already. The frame end at the front of what waits is presented once both
entries are FREE: with nothing FILLING it has no effect; else the frame completes if its line count has reached height,
and is broken SHORT otherwise; a DRAINING stream then enters OFF, as its status record reports, and its STOP_STREAM is
answered DONE; a PENDING freeze becomes ACTIVE and its HOLD_STREAM is answered DONE. What waits behind it waits on, a
frame start too; an OFF stream's is discarded. The model's choices: a frame start that waited behind it is presented in
a step of its own, or before the next event of its link (log 8); the bytes of a record are those at the issue of its
write (log 17), which waits for the catalog writes of the hold events before it and shows the holds after its own event
(log 37); a frame end that places a hold and changes the state or the freeze makes one status record write, after the
catalog record's (log 37); a command whose event is not there changes nothing (log 1). -/
def Obligations.FrameEndCompletesOrBreaks : Prop :=
  ∀ (s : StreamId) (late : Bool) (m : State),
    let old := m.stream s
    (old.state ≠ .off →
      exec (.frameEndMarker s) m = .next { m with
        capture := m.capture.set s { m.cport s with waiting := (m.cport s).waiting ++ [.frameEnd] } })
    ∧ (old.state = .off → exec (.frameEndMarker s) m = .next m)
    ∧ ((m.cport s).waiting.head? = some .frameEnd → (m.cport s).allFree = false →
        exec (.frameEnd ⟨s, late⟩) m = .next m)
    ∧ ((m.cport s).waiting.head? ≠ some .frameEnd → exec (.frameEnd ⟨s, late⟩) m = .next m)
    ∧ (∀ rest : List LinkEvent, (m.cport s).waiting = .frameEnd :: rest → (m.cport s).allFree = true →
        m.filling s = none →
        exec (.frameEnd ⟨s, late⟩) m = .next { m with capture := m.capture.set s { m.cport s with waiting := rest } })
    ∧ (∀ (i : BankIx) (rest : List LinkEvent), (m.cport s).waiting = .frameEnd :: rest →
        (m.cport s).allFree = true → m.filling s = some i → old.state ≠ .off →
      ∃ t, exec (.frameEnd ⟨s, late⟩) m = .next t
        ∧ (old.lineCount.toNat < (m.bx.geom s).height.toNat →
            (t.stream s).counters = { old.counters with broken := old.counters.broken + 1 }
            ∧ (t.stream s).lastBroken = .short ∧ (t.bank s i).state = .empty ∧ (t.bank s i).seq = 0
            ∧ t.pub = m.pub)
        ∧ ((m.bx.geom s).height.toNat ≤ old.lineCount.toNat →
            (t.stream s).counters.written = old.counters.written + 1
            ∧ (t.stream s).counters.broken = old.counters.broken ∧ (t.stream s).lastBroken = old.lastBroken
            ∧ (old.state ≠ .draining → (t.bank s i).state = .valid ∧ (t.bank s i).lines = old.lineCount
                ∧ (t.bank s i).flags = old.lineFlags ∧ (t.bank s i).seq = (m.bank s i).seq
                ∧ (t.bank s i).captureTime = (m.bank s i).captureTime))
        ∧ (t.stream s).state = (if old.state = .draining then .off else old.state)
        ∧ (old.state ≠ .draining → (t.stream s).freeze = if old.freeze = .pending then .active else old.freeze)
        ∧ (∀ n, old.state = .draining → old.freeze = .none → old.waitingStop = some n →
            (t.stream s).waitingStop = none ∧ t.req.inFlight = (m.report n (.done [])).req.inFlight)
        ∧ (∀ n, old.state = .draining → old.waitingStop = some n →
            (t.stream s).waitingStop = none ∧ m.endsHeld t n (.done []))
        ∧ (∀ n, old.state ≠ .draining → old.freeze = .pending → old.waitingHold = some n →
            (t.stream s).waitingHold = none ∧ m.endsHeld t n (.done []))
        ∧ (t.stream s).seq = old.seq ∧ (t.stream s).counters.arrived = old.counters.arrived
        ∧ (t.cport s).waiting = (if old.state = .draining then [] else rest)
        ∧ ((t.publish s).holds = (m.publish s).holds → m.reportsStatus t s
            (if old.state = .draining then some true else if old.freeze = .pending then some false else none))
        ∧ ((t.publish s).holds ≠ (m.publish s).holds → m.holdReported t s (decide (old.state = .draining)))
        ∧ m.otherReportsSame t s
        ∧ (∀ k, k ≠ s → t.stream k = m.stream k ∧ t.cport k = m.cport k ∧ ∀ j, t.bank k j = m.bank k j)
        ∧ { t with
            streams := m.streams, reports := m.reports, bx := m.bx, capture := m.capture, arb := m.arb, req := m.req
            pub := m.pub } = m)

/-- The loss timer reaches its due time: a SEEKING or LIVE stream is LOST with its timer stopped, its FILLING frame
broken with cause LOST; a DRAINING stream's frame is broken, the stream is OFF and its STOP_STREAM answered DONE. Each
writes the status record that will raise STREAM. (With a placement on its way, see PublicationAtCompletion.) The model's
choices: the timebase is brought to the due time (log 3); the bytes of a record are those at the issue of its write (log
17), which waits for the catalog writes of the hold events before it and shows the holds after its own event (log 37).
-/
def Obligations.LossTimerExpires : Prop :=
  ∀ (s : StreamId) (due : Dword) (m : State), (m.stream s).lossTimer = some due → (m.publish s).offer = none →
    let old := m.stream s
    let now := if m.time.count.toNat < due.toNat then due else m.time.count
    ((old.state = .seeking ∨ old.state = .live) → m.filling s = none →
      ∃ t, exec (.lossTimerExpiry s) m = .next t
        ∧ t.stream s = { old with state := .lost, lossTimer := none } ∧ t.time = { m.time with count := now }
        ∧ m.reportsStatus t s (some true) ∧ m.otherReportsSame t s
        ∧ m.otherClientsSame t [streamClient s] ∧ t.arb.port = m.arb.port
        ∧ (∀ k, k ≠ s → t.stream k = m.stream k)
        ∧ { t with streams := m.streams, reports := m.reports, arb := m.arb, time := m.time } = m)
    ∧ (∀ i, old.state = .seeking ∨ old.state = .live ∨ old.state = .draining → m.filling s = some i →
      ∃ t, exec (.lossTimerExpiry s) m = .next t
        ∧ m.reportsStatus t s (some true) ∧ m.otherReportsSame t s
        ∧ (∀ n, old.state = .draining → old.waitingStop = some n →
            (t.stream s).waitingStop = none ∧ m.endsHeld t n (.done []))
        ∧ (∀ n, old.state ≠ .draining → old.freeze = .pending → old.waitingHold = some n →
            (t.stream s).waitingHold = none ∧ m.endsHeld t n (.done []))
        ∧ (t.stream s).state = (if old.state = .draining then .off else .lost) ∧ (t.stream s).lossTimer = none
        ∧ (t.stream s).lastBroken = .lost
        ∧ (t.stream s).counters = { old.counters with broken := old.counters.broken + 1 }
        ∧ (old.state ≠ .draining → (t.stream s).freeze = if old.freeze = .pending then .active else old.freeze)
        ∧ (t.bank s i).state = .empty ∧ (t.client (.capture s)).queue = [] ∧ (t.cport s).buffer = #v[none, none]
        ∧ t.time = { m.time with count := now }
        ∧ (∀ k, k ≠ s → t.stream k = m.stream k ∧ t.cport k = m.cport k ∧ ∀ j, t.bank k j = m.bank k j)
        ∧ { t with
            streams := m.streams, reports := m.reports, bx := m.bx, capture := m.capture, arb := m.arb, req := m.req
            time := m.time } = m)

/-! ## Sweeps and requests -/

/-- The sweep timer expires and is set one period on. In RUNNING, with no halt, it begins a sweep, whose first reads are
the return tickets of the records HELD or RECLAIMED, or at once the board, two slots a burst (the last slot of an odd
board alone: log 20); or it is owed as one further sweep. In every other case it begins none. The model's choices: the
timebase is brought to the due time (log 3); all reads of a phase are issued together (log 12); the board copy and next
slot are kept until phase BOARD begins, which empties the copy and sets next slot to 0 (log 44). -/
def Obligations.SweepTimerTriggers : Prop :=
  ∀ (due : Dword) (m : State), m.req.sweepTimer = some due →
    let records := allPositions.filter fun q => (m.bank q.1 q.2).catalog != .idle
    let returns : List Burst := records.map fun q =>
      ⟨.returnRead q.1 q.2, m.dir.catalogAddr.toNat + q.1.val * 512 + q.2.val * 64 + 60, .read 4⟩
    let board : List Burst := (List.range ((m.dir.slotCount.toNat + 1) / 2)).map fun k =>
      ⟨.boardRead (2 * k), m.dir.boardAddr.toNat + 256 * k, .read (if 2 * k + 1 < m.dir.slotCount.toNat then 256 else 128)⟩
    let timer := { m.req with sweepTimer := some (due + BitVec.ofNat 64 (m.dir.sweepPeriod.toNat * 125)) }
    let run := m.ctl.device = .running ∧ m.req.halting = false
    ∃ t, exec .sweepTimerExpiry m = .next t
      ∧ t.time = { m.time with count := if m.time.count.toNat < due.toNat then due else m.time.count }
      ∧ (run → m.req.sweep = .idle → records ≠ [] →
          t.req = { timer with sweep := .returns, sweepPending := false } ∧ m.clientIssues t requestClient returns)
      ∧ (run → m.req.sweep = .idle → records = [] →
          t.req = { timer with sweep := .board, sweepPending := false, board := [], nextSlot := 0 }
          ∧ m.clientIssues t requestClient board)
      ∧ (run → m.req.sweep ≠ .idle → t.req = { timer with sweepPending := true } ∧ t.arb = m.arb)
      ∧ (¬ run → t.req = timer ∧ t.arb = m.arb)
      ∧ m.otherClientsSame t [requestClient]
      ∧ { t with time := m.time, req := m.req, arb := m.arb } = m

/-- A return ticket read completes. The low half of the word is examined: equal to the position's last ticket it ends
the hold of a HELD record, which becomes IDLE, or is a late return for a RECLAIMED one; otherwise nothing happens. The
end of a hold asks for the status record that follows the catalog write. After the last return read the board is read.
At a halt the value is discarded, and after the last return read the sweep ends, every WAITING request is answered
ABORTED and its owner drops it. The model's choices: all board reads are issued together (log 12); phase BOARD begins
with an empty board copy and next slot 0 (log 44); the bytes of a record are those at the issue of its write (log 17);
the status record shows the holds after the event (log 37). -/
def Obligations.ReturnTicketExamined : Prop :=
  ∀ (s : StreamId) (i : BankIx) (g : Granted) (m : State),
    (m.client requestClient).granted.head? = some g → g.burst.purpose = .returnRead s i →
    let b := m.bank s i
    let matched := fieldHalf g.data 0 = b.lastTicket
    let more := (m.client requestClient).queue.any (fun x => x.purpose.isReturnRead)
      || (m.client requestClient).granted.tail.any fun x => x.burst.purpose.isReturnRead
    (m.req.halting = true →
      ∃ t, exec .returnTicketReadComplete m = .next t ∧ t.bx = m.bx ∧ t.pub = m.pub
        ∧ t.client publicationClient = m.client publicationClient
        ∧ (more = true → t.req = m.req ∧ t.streams = m.streams ∧ t.ports = m.ports)
        ∧ (more = false → t.req.sweep = .idle ∧ m.abortsWaiting t)
        ∧ m.otherClientsSame t (requestClient :: allPorts.map portClient)
        ∧ (t.client requestClient).granted = (m.client requestClient).granted.tail
        ∧ { t with streams := m.streams, ports := m.ports, req := m.req, arb := m.arb } = m)
    ∧ (m.req.halting = false → ∃ t, exec .returnTicketReadComplete m = .next t
      ∧ (matched → b.catalog = .held →
          (t.bank s i).hold = none ∧ (t.bank s i).catalog = .idle ∧ (t.bank s i).lastTicket = b.lastTicket
          ∧ (t.bank s i).state
            = (if b.state = .valid ∧ (m.stream s).state = .off ∧ ∀ p : PortId, m.bx.claims[p] ≠ some (s, i) then .empty
               else b.state)
          ∧ ((m.stream s).state ≠ .off → (t.bank s i).seq = b.seq)
          ∧ (t.publish s).holds = (m.publish s).holds - 1 ∧ (t.publish s).nth = (m.publish s).nth
          ∧ m.clientIssues t publicationClient
              [⟨.catalogWrite s i .returned, m.catalogAddr s i, .write (t.catalogRecord s i b.lastTicket)⟩]
          ∧ m.holdReported t s false ∧ m.otherReportsSame t s)
      ∧ (matched → b.catalog = .reclaimed →
          t.bank s i = { b with catalog := .idle } ∧ t.pub = m.pub
          ∧ m.clientIssues t publicationClient
              [⟨.catalogWrite s i .lateReturn, m.catalogAddr s i, .write (t.catalogRecord s i b.lastTicket)⟩]
          ∧ t.reports = m.reports)
      ∧ (¬ matched ∨ b.catalog = .idle →
          t.bx = m.bx ∧ t.pub = m.pub ∧ t.client publicationClient = m.client publicationClient
          ∧ t.reports = m.reports)
      ∧ (∀ k j, k ≠ s ∨ j ≠ i → t.bank k j = m.bank k j) ∧ t.bx.claims = m.bx.claims ∧ t.bx.geometry = m.bx.geometry
      ∧ t.pub.images = m.pub.images
      ∧ (more = true → t.req = m.req ∧ (t.client requestClient).queue = (m.client requestClient).queue)
      ∧ (more = false → t.req = { m.req with sweep := .board, board := [], nextSlot := 0 }
          ∧ (t.client requestClient).queue = (m.client requestClient).queue ++ m.boardBursts)
      ∧ (t.client requestClient).granted = (m.client requestClient).granted.tail
      ∧ m.otherClientsSame t [requestClient, publicationClient]
      ∧ { t with bx := m.bx, pub := m.pub, reports := m.reports, req := m.req, arb := m.arb } = m)

/-- A board read completes: its slots join the board copy. After the last one phase TAKING begins, and the slot on turn
is the first one POSTED and not marked in flight; with none, the sweep ends, and a pending one begins. At a halt the
copies are discarded, and after the last one the sweep ends, every WAITING request is answered ABORTED and its owner
drops it. A slot's fields stand at their offsets in its 128 bytes. The model's choices: slots not taken are passed over
at once and the sweep ends within the step (log 13); the board copy is kept when the sweep ends, until the next phase
BOARD begins (log 44). -/
def Obligations.BoardReadCopied : Prop :=
  (∀ (first : Nat) (g : Granted) (m : State),
    (m.client requestClient).granted.head? = some g → g.burst.purpose = .boardRead first →
    let more := (m.client requestClient).queue.any (fun x => x.purpose.isBoardRead)
      || (m.client requestClient).granted.tail.any fun x => x.burst.purpose.isBoardRead
    let board := m.req.board ++ decodeSlots g.data g.marks
    let posted := fun b : BoardSlot => b.state.toNat == 1 && !b.inFlight
    ∃ t, exec .boardReadComplete m = .next t
      ∧ (m.req.halting = false → more = true → t.req = { m.req with board := board })
      ∧ (m.req.halting = false → more = false → m.req.grabWait = none →
          (board.any posted = true →
            t.req = { m.req with board := board, sweep := .taking, nextSlot := t.req.nextSlot }
            ∧ (board[t.req.nextSlot]?.any posted) = true ∧ (board.take t.req.nextSlot).any posted = false)
          ∧ (board.any posted = false →
              t.req.board = (if m.req.sweepPending = true ∧ t.req.sweep = .board then [] else board)
              ∧ (m.req.sweepPending = false → t.req.sweep = .idle)
              ∧ (m.req.sweepPending = true → t.req.sweep = .returns ∨ t.req.sweep = .board)
              ∧ t.req.sweepPending = false ∧ t.req.inFlight = m.req.inFlight))
      ∧ (m.req.halting = true → more = true → t.req = m.req)
      ∧ (m.req.halting = true → more = false →
          t.req.sweep = .idle ∧ t.req.board = m.req.board ∧ m.abortsWaiting t)
      ∧ (t.client requestClient).granted = (m.client requestClient).granted.tail
      ∧ m.otherClientsSame t (requestClient :: if m.req.halting = true then allPorts.map portClient else [])
      ∧ (m.req.halting = false ∨ more = true → t.streams = m.streams ∧ t.ports = m.ports)
      ∧ { t with streams := m.streams, ports := m.ports, req := m.req, arb := m.arb } = m)
    ∧ ∀ (data : List Byte) (marks : List Bool), (decodeSlots data marks).length = marks.length
      ∧ ∀ k, k < marks.length →
        let slot := data.drop (128 * k)
        (decodeSlots data marks)[k]? = some ⟨fieldWord slot 0x00,
          ⟨fieldHalf slot 0x04, fieldByte slot 0x06, fieldByte slot 0x07, fieldHalf slot 0x08,
            #v[fieldWord slot 0x0C, fieldWord slot 0x10, fieldWord slot 0x14, fieldWord slot 0x18, fieldWord slot 0x1C,
              fieldWord slot 0x20]⟩, marks[k]?.getD false⟩

/-- Every command that takes a slot takes the slot on turn, in ascending order, if the slot's kind is its own: the
state word TAKEN is written alone, the request enters the in-flight set with the copy's contents, and only a later slot
can be on turn next. For another kind, or with no slot on turn, there is no such step (log 1, log 14). -/
def Obligations.SlotTakenOnTurn : Prop :=
  ∀ q ∈ requestCommands, ∀ (n : SlotId) (r : Request) (m : State),
    (m.turn = some (n, r) → RequestKind.ofCode r.kind = q.2 → m.req.halting = false →
      m.req.sweep = .taking ∧ n.val = m.req.nextSlot
      ∧ (m.req.board[n.val]?).map (fun b => (b.state.toNat, b.inFlight, b.request)) = some (1, false, r)
      ∧ ∃ t, exec q.1 m = .next t
        ∧ (m.client requestClient).queue
            ++ [⟨.takenWrite n, m.dir.boardAddr.toNat + n.val * 128, .write [2, 0, 0, 0]⟩]
          <+: (t.client requestClient).queue
        ∧ (t.req.inFlight[n]).map (fun e => (e.request, e.owner)) = some (r, r.owner)
        ∧ (∀ k, m.req.inFlight[k] = none → k ≠ n → t.req.inFlight[k] = none)
        ∧ ((t.turn).all fun x => decide (n < x.1)) = true
        ∧ t.mem = m.mem ∧ t.time = m.time ∧ t.ctl = m.ctl ∧ t.notice = m.notice ∧ t.ep = m.ep ∧ t.out = m.out)
    ∧ (m.turn = some (n, r) → RequestKind.ofCode r.kind ≠ q.2 → exec q.1 m = .next m)
    ∧ (m.turn = none → exec q.1 m = .next m)

/-- NOP is answered DONE at taking with code OK, whatever its target and flags; result words 0 to 5 carry args 0 to 5
and words 6 to 15 are 0. It touches no other block. Its answer write's completion raises ANSWERED. -/
def Obligations.NopEchoesArgs : Prop :=
  ∀ (n : SlotId) (r : Request) (m : State),
    (m.turn = some (n, r) → RequestKind.ofCode r.kind = some .nop →
      let bytes := answerBytes r (.done r.args.toList) m.now
      ∃ t, exec .nop m = .next t
        ∧ t.req.inFlight[n] = some ⟨r, r.owner, .answering⟩
        ∧ (m.client requestClient).queue
            ++ [⟨.takenWrite n, m.dir.boardAddr.toNat + n.val * 128, .write [2, 0, 0, 0]⟩,
                ⟨.answerWrite n, m.dir.boardAddr.toNat + n.val * 128, .write bytes⟩]
          <+: (t.client requestClient).queue
        ∧ bytes.length = 128 ∧ fieldNat bytes 0x00 4 = 3 ∧ fieldNat bytes 0x24 4 = 0
        ∧ (∀ k : Fin 6, fieldWord bytes (0x28 + 4 * k.val) = r.args[k])
        ∧ (∀ k : Fin 10, fieldWord bytes (0x40 + 4 * k.val) = 0)
        ∧ fieldNat bytes 0x68 8 = m.time.count.toNat
        ∧ (m.req.halting = false → m.answeredAtTaking t n r (.done r.args.toList))
        ∧ m.otherClientsSame t [requestClient]
        ∧ { t with req := m.req, arb := m.arb } = m)
    ∧ (∀ g, (m.client requestClient).granted.head? = some g → g.burst.purpose = .answerWrite n →
      ∃ t, exec .answerWriteComplete m = .next t ∧ t.req.inFlight[n] = none
        ∧ t.notice.counts[(0 : Fin 6)] = m.notice.counts[(0 : Fin 6)] + 1 ∧ t.notice.pending[0] = true)

/-- A slot whose kind names no request is refused with BAD_KIND, and one whose kind takes a stream or a port and whose
target names none with BAD_TARGET, at taking and without reaching an owner. -/
def Obligations.BadKindAndTargetRefused : Prop :=
  ∀ (n : SlotId) (r : Request) (m : State), m.turn = some (n, r) → m.req.halting = false →
    let refusedWith := fun (c : Instr) (code : RefusalCode) =>
      ∃ t, exec c m = .next t ∧ m.answeredAtTaking t n r (.refused code) ∧ m.otherClientsSame t [requestClient]
        ∧ { t with req := m.req, arb := m.arb } = m
    (RequestKind.ofCode r.kind = none → refusedWith .badKind .badKind)
    ∧ (∀ q ∈ [(Instr.adoptStream, RequestKind.adoptStream), (.stopStream, .stopStream), (.holdStream, .holdStream),
          (.resumeStream, .resumeStream), (.queryStream, .queryStream), (.grab, .grab)],
        RequestKind.ofCode r.kind = some q.2 → 8 ≤ r.target.toNat → refusedWith q.1 .badTarget)
    ∧ (∀ q ∈ [(Instr.startPort, RequestKind.startPort), (.splice, .splice), (.stopPort, .stopPort),
          (.queryPort, .queryPort)],
        RequestKind.ofCode r.kind = some q.2 → 4 ≤ r.target.toNat → refusedWith q.1 .badTarget)

/-! ## Stream requests -/

/-- ADOPT_STREAM of an OFF stream with no adoption in progress waits and reads the stream's record; otherwise it is
refused with BAD_STATE. The completed read is checked: a failure refuses the request with its code, a record that
passes is pending, and the adoption takes effect at once if nothing stands in its way. The model's choices: an
adoption that nothing holds back takes effect in the step of its record's completion (log 22); a command whose event
is not there changes nothing (log 1). -/
def Obligations.AdoptStreamReadsRecord : Prop :=
  ∀ (s : StreamId) (m : State),
    let old := m.stream s
    (∀ (n : SlotId) (r : Request), m.onTurn .adoptStream n r → r.target.toNat = s.val →
      (old.state = .off → old.adoption = .none →
        ∃ t, exec .adoptStream m = .next t ∧ m.leftWaiting t n r ∧ t.stream s = { old with adoption := .reading n }
          ∧ (∀ k, k ≠ s → t.stream k = m.stream k)
          ∧ m.clientIssues t (streamClient s)
              [⟨.streamRecordRead, m.dir.streamTableAddr.toNat + s.val * 64, .read 64⟩]
          ∧ m.otherClientsSame t [requestClient, streamClient s]
          ∧ { t with streams := m.streams, req := m.req, arb := m.arb } = m)
      ∧ (old.state ≠ .off ∨ old.adoption ≠ .none →
        ∃ t, exec .adoptStream m = .next t ∧ m.answeredAtTaking t n r (.refused .badState)
          ∧ m.otherClientsSame t [requestClient] ∧ { t with req := m.req, arb := m.arb } = m))
    ∧ (∀ g, (m.client (streamClient s)).granted.head? = some g → g.burst.purpose = .streamRecordRead →
      let read := { m with arb := m.arb.complete (streamClient s) }
      (∀ (n : SlotId) (c : StreamConfig), old.adoption = .reading n → m.checkRecord s g.data = .inr c →
        ∃ t, exec (.streamRecordReadComplete s) m = .next t
          ∧ exec (.adoptionTakesEffect s)
              { read with streams := m.streams.set s { old with adoption := .pending n c } } = .next t)
      ∧ (∀ (n : SlotId) (code : RefusalCode), old.adoption = .reading n → m.checkRecord s g.data = .inl code →
        ∃ t, exec (.streamRecordReadComplete s) m = .next t ∧ t.stream s = { old with adoption := .none }
          ∧ m.endsHeld t n (.refused code) ∧ (∀ k, k ≠ s → t.stream k = m.stream k)
          ∧ (t.client (streamClient s)).granted = (m.client (streamClient s)).granted.tail
          ∧ { t with streams := m.streams, req := m.req, arb := m.arb } = m)
      ∧ ((∀ n, old.adoption ≠ .reading n) → exec (.streamRecordReadComplete s) m = .next read))

/-- A stream record is accepted exactly when every field, at its offset, is in its range, and its configuration holds
the fields. The checks on a record in order, the first failure deciding: the ranges of the fields (BAD_FIELD), the
footprint inside exchange memory (RANGE), no overlap with one of the five regions of the directory, nor with the
footprint of another stream that is not OFF or has a held bank, or of another stream's pending record (OVERLAP),
no hold on a bank of the stream (HOLDS_REMAIN). -/
def Obligations.StreamRecordChecks : Prop :=
  ∀ (s : StreamId) (bs : List Byte) (m : State),
    let u8 := fun off => fieldNat bs off 1
    let u16 := fun off => fieldNat bs off 2
    let bpp := if u8 0x05 = 1 then 2 else 1
    let inRange := fieldNat bs 0x00 4 % 4096 = 0 ∧ (2 ≤ u8 0x04 ∧ u8 0x04 ≤ 8) ∧ (u8 0x05 = 1 ∨ u8 0x05 = 2)
      ∧ u8 0x06 ≤ 2 ∧ u8 0x07 ≤ 1 ∧ (16 ≤ u16 0x08 ∧ u16 0x08 ≤ 2048 ∧ u16 0x08 % 16 = 0)
      ∧ (16 ≤ u16 0x0A ∧ u16 0x0A ≤ 2048)
      ∧ (u16 0x0C % 64 = 0 ∧ u16 0x08 * bpp ≤ u16 0x0C ∧ u16 0x0C ≤ 16384)
      ∧ (1 ≤ u8 0x0E ∧ u8 0x0E ≤ 16) ∧ (u8 0x06 = 2 → 2 ≤ u8 0x0F)
      ∧ (u8 0x10 + 2 ≤ u8 0x04 ∧ (u8 0x06 ≠ 0 → 1 ≤ u8 0x10)) ∧ (10 ≤ u16 0x12 ∧ u16 0x12 ≤ 2000)
      ∧ u16 0x14 ≤ 60000
    (¬ inRange → decodeStreamRecord bs = none)
    ∧ (inRange → ∃ c, decodeStreamRecord bs = some c ∧ c.bankBase = fieldWord bs 0x00 ∧ c.bankCount = fieldByte bs 0x04
        ∧ (u8 0x05 = 1 → c.format = .yc16) ∧ (u8 0x05 = 2 → c.format = .y8)
        ∧ (u8 0x06 = 0 → c.publishPolicy = .none) ∧ (u8 0x06 = 1 → c.publishPolicy = .every)
        ∧ (u8 0x06 = 2 → c.publishPolicy = .nth) ∧ (u8 0x07 = 0 → c.onLoss = .fill) ∧ (u8 0x07 = 1 → c.onLoss = .last)
        ∧ c.width = fieldHalf bs 0x08 ∧ c.height = fieldHalf bs 0x0A ∧ c.pitch = fieldHalf bs 0x0C
        ∧ c.captureDivisor = fieldByte bs 0x0E ∧ c.publishN = fieldByte bs 0x0F ∧ c.holdLimit = fieldByte bs 0x10
        ∧ c.lossTimeout = fieldHalf bs 0x12 ∧ c.holdTime = fieldHalf bs 0x14)
    ∧ (decodeStreamRecord bs = none → m.checkRecord s bs = .inl .badField)
    ∧ ∀ c, decodeStreamRecord bs = some c →
      let f := c.geometry.footprint
      let meets := fun base size : Nat => f.base < base + size ∧ base < f.base + f.size
      let set := fun (base : Word) (count : Byte) (height pitch : Half) =>
        meets base.toNat (count.toNat * ((pitch.toNat * height.toNat + 4095) / 4096 * 4096))
      let overlap := meets m.dir.dirbase.toNat 64 ∨ meets m.dir.streamTableAddr.toNat 512
        ∨ meets m.dir.boardAddr.toNat (m.dir.slotCount.toNat * 128) ∨ meets m.dir.catalogAddr.toNat 4096
        ∨ meets m.dir.statusAddr.toNat 1024
        ∨ ∃ k, k ≠ s ∧ ((∃ n p, (m.stream k).adoption = .pending n p ∧ set p.bankBase p.bankCount p.height p.pitch)
          ∨ (∀ n p, (m.stream k).adoption ≠ .pending n p)
            ∧ ((m.stream k).state ≠ .off ∨ ∃ i, (m.bank k i).hold ≠ none)
            ∧ ∃ g, m.bx.geometry[k] = some g ∧ set g.bankBase g.bankCount g.height g.pitch)
      (c.bankBase.toNat % 4096 = 0 ∧ 2 ≤ c.bankCount.toNat ∧ c.bankCount.toNat ≤ 8
        ∧ 16 ≤ c.width.toNat ∧ c.width.toNat ≤ 2048 ∧ c.width.toNat % 16 = 0
        ∧ 16 ≤ c.height.toNat ∧ c.height.toNat ≤ 2048
        ∧ c.pitch.toNat % 64 = 0 ∧ c.width.toNat * c.format.bytesPerPixel ≤ c.pitch.toNat ∧ c.pitch.toNat ≤ 16384
        ∧ 1 ≤ c.captureDivisor.toNat ∧ c.captureDivisor.toNat ≤ 16
        ∧ (c.publishPolicy = .nth → 2 ≤ c.publishN.toNat)
        ∧ c.holdLimit.toNat + 2 ≤ c.bankCount.toNat ∧ (c.publishPolicy ≠ .none → 1 ≤ c.holdLimit.toNat)
        ∧ c.holdTime.toNat ≤ 60000 ∧ 10 ≤ c.lossTimeout.toNat ∧ c.lossTimeout.toNat ≤ 2000)
      ∧ f.base = c.bankBase.toNat
      ∧ f.size = c.bankCount.toNat * ((c.pitch.toNat * c.height.toNat + 4095) / 4096 * 4096)
      ∧ (0x40000000 < f.base + f.size → m.checkRecord s bs = .inl .range)
      ∧ (f.base + f.size ≤ 0x40000000 → overlap → m.checkRecord s bs = .inl .overlap)
      ∧ (f.base + f.size ≤ 0x40000000 → ¬ overlap → (∃ i, (m.bank s i).hold ≠ none) →
          m.checkRecord s bs = .inl .holdsRemain)
      ∧ (f.base + f.size ≤ 0x40000000 → ¬ overlap → (∀ i, (m.bank s i).hold = none) → m.checkRecord s bs = .inr c)

/-- A pending adoption takes effect once no port claims a bank of the stream, none of its banks is held, and no port
claims a bank of an OFF stream of whose retained banks, VALID and claimed or held, one has bytes in common with the new
footprint (log 21): a fresh bank set with the last tickets kept, the configuration, SEEKING with counters and seq 0, and
the catalog records of the set written, the last of which will answer the request. The model's choices: the bytes of a
record are those at the issue of its write (log 17), which waits for the catalog writes of the hold events before it and
shows the holds after its own event (log 37); a command whose event is not there changes nothing (log 1). -/
def Obligations.AdoptionTakesEffect : Prop :=
  ∀ (s : StreamId) (n : SlotId) (c : StreamConfig) (m : State),
    (m.stream s).adoption = .pending n c → (m.stream s).state = .off →
    let old := m.stream s
    let stride := (c.pitch.toNat * c.height.toNat + 4095) / 4096 * 4096
    let free := (∀ (p : PortId) i, m.bx.claims[p] ≠ some (s, i)) ∧ (∀ i, (m.bank s i).hold = none)
      ∧ ∀ k, (m.stream k).state = .off → (∃ (p : PortId) (i : BankIx), m.bx.claims[p] = some (k, i)) →
          ¬ ∃ i, (m.bank k i).state = .valid ∧ ((m.bank k i).hold ≠ none ∨ ∃ p : PortId, m.bx.claims[p] = some (k, i))
            ∧ c.bankBase.toNat < m.bx.addr k i + (m.bx.geom k).stride
            ∧ m.bx.addr k i < c.bankBase.toNat + c.bankCount.toNat * stride
    (¬ free → exec (.adoptionTakesEffect s) m = .next m)
    ∧ (free → ∃ t, exec (.adoptionTakesEffect s) m = .next t
      ∧ t.stream s = { old with
          state := .seeking, freeze := .none, config := some c, seq := 0, decimation := 0
          counters := ⟨0, 0, 0, 0, 0, 0, 0, 0, 0, 0⟩, placements := 0, lastBroken := .none
          lossTimer := some (m.now + BitVec.ofNat 64 (c.lossTimeout.toNat * 1000)), adoption := .none
          lineCount := 0, lineFlags := .clear }
      ∧ (∀ i, t.bank s i = { m.bank s i with
          state := .empty, seq := 0, captureTime := 0, lines := 0, flags := ⟨false, false⟩, catalog := .idle })
      ∧ t.bx.geometry[s] = some ⟨c.bankBase, c.bankCount, c.width, c.height, c.pitch, c.format⟩
      ∧ t.bx.claims = m.bx.claims ∧ t.publish s = ⟨0, 0, none⟩
      ∧ (∀ i, t.image s i = ⟨none, 0, 0, 0, ⟨false, false⟩, .none⟩)
      ∧ m.clientIssues t publicationClient
          ((allBanks.filter fun i => decide (i.val < c.bankCount.toNat)).map fun i =>
            ⟨.catalogWrite s i (.adoption (if i.val + 1 = c.bankCount.toNat then
                some ⟨n, BitVec.ofNat 32 stride, BitVec.ofNat 32 (c.bankCount.toNat * stride)⟩ else none)),
              m.dir.catalogAddr.toNat + s.val * 512 + i.val * 64, .write (t.catalogRecord s i 0 ++ [0, 0, 0, 0])⟩)
      ∧ m.reportsStatus t s (some false) ∧ m.otherReportsSame t s
      ∧ m.otherClientsSame t [publicationClient, streamClient s] ∧ m.otherStreamsSame t s
      ∧ { t with streams := m.streams, reports := m.reports, bx := m.bx, pub := m.pub, arb := m.arb } = m)

/-- STOP_STREAM: a stream with a frame FILLING drains and the request waits; one with none enters OFF and the request is
answered DONE, its unmarked VALID banks becoming EMPTY and its marked ones kept; a waiting HOLD_STREAM is ABORTED. The
status record is written, raising STREAM for the entry to OFF. An OFF or DRAINING stream refuses it with BAD_STATE.
(With a placement on its way, see PublicationAtCompletion.) The model's choices: the bytes of a record are those at the
issue of its write (log 17), which waits for the catalog writes of the hold events before it and shows the holds after
its own event (log 37). -/
def Obligations.StopStreamDrainsOrCloses : Prop :=
  ∀ (s : StreamId) (n : SlotId) (r : Request) (m : State), m.onTurn .stopStream n r → r.target.toNat = s.val →
    (m.publish s).offer = none →
    let old := m.stream s
    (old.state = .off ∨ old.state = .draining →
      ∃ t, exec .stopStream m = .next t ∧ m.answeredAtTaking t n r (.refused .badState)
        ∧ m.otherClientsSame t [requestClient] ∧ { t with req := m.req, arb := m.arb } = m)
    ∧ (old.state = .seeking ∨ old.state = .live ∨ old.state = .lost →
      ∃ t, exec .stopStream m = .next t
        ∧ (m.filling s ≠ none →
            t.stream s = { old with state := .draining, freeze := .none, waitingStop := some n, waitingHold := none }
            ∧ t.bx = m.bx ∧ t.capture = m.capture
            ∧ (old.waitingHold ≠ some n → t.req.inFlight[n] = some ⟨r, r.owner, .waiting⟩)
            ∧ (old.waitingHold = none → m.leftWaiting t n r))
        ∧ (m.filling s = none →
            t.stream s = { old with
              state := .off, freeze := .none, waitingStop := none, waitingHold := none, lossTimer := none }
            ∧ (old.waitingHold = none → m.answeredAtTaking t n r (.done []))
            ∧ t.req.inFlight[n] = some ⟨r, r.owner, .answering⟩
            ∧ (∀ i, t.bank s i =
                if (m.bank s i).state = .valid ∧ (m.bank s i).hold = none ∧ ∀ p : PortId, m.bx.claims[p] ≠ some (s, i)
                then { m.bank s i with state := .empty, seq := 0, captureTime := 0, lines := 0, flags := ⟨false, false⟩ }
                else m.bank s i)
            ∧ (t.cport s).buffer = #v[none, none] ∧ (t.cport s).waiting = []
            ∧ (t.client (.capture s)).queue = [])
        ∧ m.reportsStatus t s (some (decide (m.filling s = none))) ∧ m.otherReportsSame t s
        ∧ (∀ k, old.waitingHold = some k → k ≠ n → m.endsHeld t k (.refused .aborted))
        ∧ t.bx.claims = m.bx.claims ∧ t.bx.geometry = m.bx.geometry ∧ m.otherStreamsSame t s
        ∧ { t with
            streams := m.streams, reports := m.reports, bx := m.bx, capture := m.capture, req := m.req
            arb := m.arb } = m)

/-- HOLD_STREAM with freeze NONE makes it ACTIVE and is answered DONE with nothing FILLING, and makes it PENDING and
waits otherwise; RESUME_STREAM ends a freeze, is answered DONE, and a waiting HOLD_STREAM is ABORTED; in every other
state each is refused with BAD_STATE. A changed freeze is followed by a status record that raises no notice. The model's
choices: the bytes of a record are those at the issue of its write (log 17), which waits for the catalog writes of the
hold events before it and shows the holds after its own event (log 37). -/
def Obligations.HoldAndResumeStream : Prop :=
  ∀ (s : StreamId) (n : SlotId) (r : Request) (m : State), r.target.toNat = s.val →
    let old := m.stream s
    let stays := fun t : State => m.otherStreamsSame t s
      ∧ m.reportsStatus t s (some false) ∧ m.otherReportsSame t s
      ∧ m.otherClientsSame t [requestClient, streamClient s]
      ∧ { t with streams := m.streams, reports := m.reports, req := m.req, arb := m.arb } = m
    let refusedBy := fun c : Instr =>
      ∃ t, exec c m = .next t ∧ m.answeredAtTaking t n r (.refused .badState)
        ∧ m.otherClientsSame t [requestClient] ∧ { t with req := m.req, arb := m.arb } = m
    (m.onTurn .holdStream n r →
      (old.state ≠ .off → old.state ≠ .draining → old.freeze = .none → m.filling s = none →
        ∃ t, exec .holdStream m = .next t ∧ t.stream s = { old with freeze := .active }
          ∧ m.answeredAtTaking t n r (.done []) ∧ stays t)
      ∧ (old.state ≠ .off → old.state ≠ .draining → old.freeze = .none → m.filling s ≠ none →
        ∃ t, exec .holdStream m = .next t ∧ t.stream s = { old with freeze := .pending, waitingHold := some n }
          ∧ m.leftWaiting t n r ∧ stays t)
      ∧ (old.state = .off ∨ old.state = .draining ∨ old.freeze ≠ .none → refusedBy .holdStream))
    ∧ (m.onTurn .resumeStream n r →
      (old.freeze ≠ .none →
        ∃ t, exec .resumeStream m = .next t ∧ t.stream s = { old with freeze := .none, waitingHold := none }
          ∧ t.req.inFlight[n] = some ⟨r, r.owner, .answering⟩
          ∧ (old.waitingHold = none → m.answeredAtTaking t n r (.done []))
          ∧ (∀ k, old.waitingHold = some k → k ≠ n → m.endsHeld t k (.refused .aborted)) ∧ stays t)
      ∧ (old.freeze = .none → refusedBy .resumeStream))

/-- QUERY_STREAM and QUERY_PORT answer DONE with the counters in their order, in every state; with the clear flag the
counters are then 0, but arrived is 1 while a bank is FILLING. Each writes the status record. The holds of a stream's
record are the banks that carry a hold, which with no hold event's catalog write outstanding are as many as the stream's
catalog records whose last written state is HELD. The model's choices: the bytes of a record are those at the issue of
its write (log 17), which waits for the catalog writes of the hold events before it and shows the holds after its own
event (log 37). -/
def Obligations.QueriesAnswerCounters : Prop :=
  ∀ (n : SlotId) (r : Request) (m : State),
    (∀ s (rep : StatusReport), rep.holds ≤ 8 → fieldNat (m.streamRecord s rep) 0x04 4 = rep.holds)
    ∧ (m.HoldAccounts → ∀ s, m.holdWrites s = 0 → m.bx.heldCount s = m.writtenHeld s)
    ∧ (∀ s : StreamId, m.onTurn .queryStream n r → r.target.toNat = s.val →
      let c := (m.stream s).counters
      ∃ t, exec .queryStream m = .next t
        ∧ m.answeredAtTaking t n r (.done [c.arrived, c.written, c.decimated, c.frozen, c.dropped, c.broken, c.published,
            c.publishMissed, c.reclaimed, c.lateReturns])
        ∧ t.stream s = (if r.flags.getLsbD 0 = true then
            { m.stream s with counters := ⟨if m.filling s = none then 0 else 1, 0, 0, 0, 0, 0, 0, 0, 0, 0⟩ }
          else m.stream s)
        ∧ m.reportsStatus t s (some false) ∧ m.otherReportsSame t s
        ∧ (∀ k, k ≠ s → t.stream k = m.stream k) ∧ m.otherClientsSame t [requestClient, streamClient s]
        ∧ { t with streams := m.streams, reports := m.reports, req := m.req, arb := m.arb } = m)
    ∧ (∀ p : PortId, m.onTurn .queryPort n r → r.target.toNat = p.val →
      let c := (m.port p).counters
      ∃ t, exec .queryPort m = .next t
        ∧ m.answeredAtTaking t n r (.done [c.shown, c.fresh, c.repeated, c.fill, c.cueChanges, c.lateCues, c.skippedCues,
            c.underrunLines])
        ∧ t.port p = (if r.flags.getLsbD 0 = true then { m.port p with counters := ⟨0, 0, 0, 0, 0, 0, 0, 0⟩ }
          else m.port p)
        ∧ m.clientIssues t (portClient p)
          (if m.ctl.device.serves = true then
            [⟨.portStatus 0, m.dir.statusAddr.toNat + 512 + p.val * 64,
              .write (portStatusBytes (m.port p) (m.walker p).nextCueAddr m.now)⟩] else [])
        ∧ (∀ k, k ≠ p → t.port k = m.port k) ∧ m.otherClientsSame t [requestClient, portClient p]
        ∧ { t with ports := m.ports, req := m.req, arb := m.arb } = m)

/-! ## Publication, holds and what completed writes bring -/

/-- A frame that completes, in LIVE or in DRAINING and whatever the freeze, is offered for publication: policy NONE
selects none, EVERY each, NTH each publish_n-th. A selected frame is lent if the holds count is below hold_limit and its
bank carries no hold, with the position's next ticket (65535 is followed by 1, so 0 is never given) and a deadline
hold_time milliseconds ahead; otherwise publish_missed counts. The placement may also be on its way when the step ends
(not in DRAINING): it then reaches the bank exchange after the next frame start's writer request, after a GRAB, at the
loss timer's expiry or before a STOP_STREAM, and is refused, and publish_missed counted, if the bank is FILLING or held
by then. A GRAB meanwhile is decided as with no placement on its way; a sweep that it ends, and a pending one that
begins then, see what the placement left. The model's choices: which of the two orders of completion and placement comes
about is given with the command (log 9), and so is whether a frame start is decoded now or has waited (log 8); the bytes
of a record are those at the issue of its write (log 17); a placement asks for the status record that follows its
catalog write, with the holds after it and all that the frame end changed (log 37). -/
def Obligations.PublicationAtCompletion : Prop :=
  (∀ (s : StreamId) (i : BankIx) (cfg : StreamConfig) (late : Bool) (rest : List LinkEvent) (m : State),
    (m.stream s).config = some cfg → m.filling s = some i → (m.stream s).state ≠ .off →
    (m.cport s).waiting = .frameEnd :: rest → (m.cport s).allFree = true →
    (m.bx.geom s).height.toNat ≤ (m.stream s).lineCount.toNat →
    let b := m.bank s i
    let draining := (m.stream s).state = .draining
    let ticket := if b.lastTicket = 65535 then 1 else b.lastTicket + 1
    let filled := { b with state := .valid, lines := (m.stream s).lineCount, flags := (m.stream s).lineFlags }
    let selected := cfg.publishPolicy = .every
      ∨ cfg.publishPolicy = .nth ∧ (m.publish s).nth + 1 = cfg.publishN.toNat
    let asked := selected ∧ (m.publish s).holds ≠ cfg.holdLimit.toNat
    let onItsWay := asked ∧ late = true ∧ ¬ draining
    let lent := asked ∧ ¬ onItsWay ∧ b.hold = none
    ∃ t, exec (.frameEnd ⟨s, late⟩) m = .next t
      ∧ (t.publish s).nth = (if cfg.publishPolicy = .nth then (if selected then 0 else (m.publish s).nth + 1)
          else (m.publish s).nth)
      ∧ (t.publish s).offer = (if onItsWay then some i else (m.publish s).offer)
      ∧ (lent →
          t.bank s i = { filled with
            catalog := .held, lastTicket := ticket
            hold := some ⟨ticket,
              if cfg.holdTime = 0 then none else some (m.now + BitVec.ofNat 64 (cfg.holdTime.toNat * 1000)), .published⟩ }
          ∧ (t.publish s).holds = (m.publish s).holds + 1
          ∧ t.image s i = ⟨some .published, b.seq, b.captureTime, (m.stream s).lineCount, (m.stream s).lineFlags, .none⟩
          ∧ (t.stream s).counters.publishMissed = (m.stream s).counters.publishMissed
          ∧ m.clientIssues t publicationClient
              [⟨.catalogWrite s i .published, m.dir.catalogAddr.toNat + s.val * 512 + i.val * 64,
                .write (t.catalogRecord s i ticket)⟩]
          ∧ m.holdReported t s (decide draining))
      ∧ (¬ lent →
          t.bank s i = (if draining ∧ b.hold = none ∧ ∀ p : PortId, m.bx.claims[p] ≠ some (s, i) then
              { b with state := .empty, seq := 0, captureTime := 0, lines := 0, flags := ⟨false, false⟩ }
            else filled)
          ∧ (t.publish s).holds = (m.publish s).holds ∧ t.pub.images = m.pub.images
          ∧ (t.stream s).counters.publishMissed
            = (if selected ∧ ¬ onItsWay then (m.stream s).counters.publishMissed + 1
               else (m.stream s).counters.publishMissed)
          ∧ t.client publicationClient = m.client publicationClient
          ∧ m.reportsStatus t s
            (if draining then some true else if (m.stream s).freeze = .pending then some false else none))
      ∧ m.otherReportsSame t s
      ∧ ticket ≠ 0 ∧ ticket ≠ b.lastTicket
      ∧ (¬ draining → ∀ j, j ≠ i → t.bank s j = m.bank s j)
      ∧ t.bx.claims = m.bx.claims ∧ t.bx.geometry = m.bx.geometry)
  ∧ ∀ (s : StreamId) (i : BankIx) (m : State), (m.publish s).offer = some i →
    let old := m.stream s
    let awake := old.state = .seeking ∨ old.state = .live ∨ old.state = .lost
    (awake → ∀ (waited : Bool) (time : Dword) (rest : List LinkEvent), m.presentsStart s waited time rest →
      ∃ u t, exec (.frameStart ⟨s, waited⟩) (m.withoutOffer s) = .next u
        ∧ exec (.frameStart ⟨s, waited⟩) m = .next t ∧ u.placedOrMissed t s i)
    ∧ (∀ due, old.state = .seeking ∨ old.state = .live → old.lossTimer = some due →
      ∃ u t, exec (.lossTimerExpiry s) (m.withoutOffer s) = .next u ∧ exec (.lossTimerExpiry s) m = .next t
        ∧ u.placedOrMissed t s i)
    ∧ (∀ (n : SlotId) (r : Request), m.onTurn .stopStream n r → r.target.toNat = s.val → awake →
      ∃ u t, (m.withoutOffer s).placedOrMissed u s i ∧ exec .stopStream m = .next t ∧ exec .stopStream u = .next t)
    ∧ (∀ (n : SlotId) (r : Request) (cfg : StreamConfig), m.onTurn .grab n r → r.target.toNat = s.val → awake →
        old.config = some cfg → (m.bx.inSet s i = true ∧ (m.bank s i).state = .valid ∧ (m.bank s i).hold = none) →
        (∀ j, j ≠ i → (m.bank s j).state = .valid → (m.bank s j).seq.toNat < (m.bank s i).seq.toNat) →
        (m.publish s).holds ≠ m.holdLimit s →
      ∃ t, exec .grab m = .next t ∧ (t.publish s).offer = none
        ∧ (t.bank s i).hold.map (·.reason) = some .grabbed ∧ (t.publish s).holds = (m.publish s).holds + 1
        ∧ t.stream s = { old with counters := { old.counters with publishMissed := old.counters.publishMissed + 1 } }
        ∧ t.req.grabWait = some n ∧ m.holdReported t s false)
    ∧ ∀ (n : SlotId) (r : Request), m.onTurn .grab n r → r.target.toNat = s.val →
      ∃ u t, exec .grab (m.withoutOffer s) = .next u ∧ exec .grab m = .next t
        ∧ { u with req := t.req, arb := u.arb.setClient requestClient (t.client requestClient) }.placedOrMissed t s i
        ∧ (m.req.sweepPending = false → t.req = u.req ∧ t.client requestClient = u.client requestClient)

/-- GRAB of a stream that is not OFF and has a hold to spare lends the newest VALID bank that carries no hold: the hold
is placed with the position's next ticket, the record written, and the answer and the status record wait for that write,
the answer with the sweep held. It is refused with BAD_STATE, QUOTA or NO_FRAME, in this order. (With a placement on its
way, see PublicationAtCompletion.) The model's choices: the bytes of a record are those at the issue of its write (log
17); the status record shows the holds after the event (log 37). -/
def Obligations.GrabLendsNewestUnheld : Prop :=
  ∀ (s : StreamId) (n : SlotId) (r : Request) (m : State), m.onTurn .grab n r → r.target.toNat = s.val →
    (m.publish s).offer = none →
    let unheld := fun i : BankIx => m.bx.inSet s i = true ∧ (m.bank s i).state = .valid ∧ (m.bank s i).hold = none
    let refusedWith := fun code : RefusalCode =>
      ∃ t, exec .grab m = .next t ∧ m.answeredAtTaking t n r (.refused code) ∧ m.otherClientsSame t [requestClient]
        ∧ { t with req := m.req, arb := m.arb } = m
    ((m.stream s).state = .off → refusedWith .badState)
    ∧ ((m.stream s).state ≠ .off → (m.publish s).holds = m.holdLimit s → refusedWith .quota)
    ∧ ((m.stream s).state ≠ .off → (m.publish s).holds ≠ m.holdLimit s → (∀ i, ¬ unheld i) → refusedWith .noFrame)
    ∧ ∀ (i : BankIx) (cfg : StreamConfig), (m.stream s).state ≠ .off → (m.publish s).holds ≠ m.holdLimit s →
        (m.stream s).config = some cfg → unheld i →
        (∀ j, unheld j → (m.bank s j).seq.toNat < (m.bank s i).seq.toNat ∨ (m.bank s j).seq = (m.bank s i).seq ∧ i ≤ j) →
        let b := m.bank s i
        let ticket := if b.lastTicket = 65535 then 1 else b.lastTicket + 1
        ∃ t, exec .grab m = .next t
          ∧ t.bank s i = { b with
              catalog := .held, lastTicket := ticket
              hold := some ⟨ticket,
                if cfg.holdTime = 0 then none else some (m.now + BitVec.ofNat 64 (cfg.holdTime.toNat * 1000)), .grabbed⟩ }
          ∧ t.publish s = { m.publish s with holds := (m.publish s).holds + 1 }
          ∧ t.image s i = ⟨some .grabbed, b.seq, b.captureTime, b.lines, b.flags, .none⟩
          ∧ t.req = { m.req with
              inFlight := m.req.inFlight.set n (some ⟨r, r.owner, .waiting⟩)
              nextSlot := n.val + 1, grabWait := some n }
          ∧ m.clientIssues t requestClient [m.takenBurst n]
          ∧ m.clientIssues t publicationClient
              [⟨.catalogWrite s i (.grabbed n [BitVec.ofNat 32 i.val, ticket.setWidth 32, b.seq.setWidth 32,
                  (b.seq >>> 32).setWidth 32, BitVec.ofNat 32 (m.bx.addr s i)]),
                m.dir.catalogAddr.toNat + s.val * 512 + i.val * 64, .write (t.catalogRecord s i ticket)⟩]
          ∧ (∀ k j, k ≠ s ∨ j ≠ i → t.bank k j = m.bank k j ∧ t.image k j = m.image k j)
          ∧ (∀ k, k ≠ s → t.publish k = m.publish k)
          ∧ t.bx.claims = m.bx.claims ∧ t.bx.geometry = m.bx.geometry
          ∧ m.holdReported t s false ∧ m.otherReportsSame t s
          ∧ m.otherClientsSame t [requestClient, publicationClient]
          ∧ { t with bx := m.bx, pub := m.pub, reports := m.reports, req := m.req, arb := m.arb } = m

/-- A completed catalog record write brings the further effects of its event: an adoption's last record answers the
request DONE with the stride and the footprint; a placement is counted, published raises PUBLISHED, a GRAB is answered
DONE and frees the sweep, which at a halt ends and aborts the other WAITING requests; a reclaim counts and raises
RECLAIMED; a late return counts. For all but adoptions and late returns the status record of the event is issued, with
the holds count after the event, and behind it those of other events that waited for this catalog write alone. The
model's choices: the bytes of a record are those at the issue of its write (log 17), with the state, freeze and holds
after its own event (log 37). -/
def Obligations.CatalogWriteBringsEffects : Prop :=
  ∀ (s : StreamId) (i : BankIx) (ev : CatalogEvent) (g : Granted) (m : State),
    (m.client publicationClient).granted.head? = some g → g.burst.purpose = .catalogWrite s i ev →
    let old := m.stream s
    let c := old.counters
    let done := fun t : State => t.client publicationClient
      = { m.client publicationClient with granted := (m.client publicationClient).granted.tail }
    let status := fun t : State => m.otherReportsSame t s
      ∧ ∀ (before rest : List StatusReport) (r : StatusReport), m.reports[s] = before ++ r :: rest →
          (∀ x ∈ before, x.awaitsCatalog = false) → r.awaitsCatalog = true →
          m.statusWrites t s (before ++ { r with awaitsCatalog := false } :: rest)
    let others := fun t : State => ∀ k, k ≠ s → t.stream k = m.stream k
    (ev = .adoption none →
      ∃ t, exec .catalogWriteComplete m = .next t ∧ done t ∧ m.otherClientsSame t [publicationClient]
        ∧ { t with arb := m.arb } = m)
    ∧ (∀ a : AdoptionAnswer, ev = .adoption (some a) →
      ∃ t, exec .catalogWriteComplete m = .next t ∧ done t ∧ m.endsHeld t a.slot (.done [a.stride, a.footprint])
        ∧ m.otherClientsSame t [publicationClient, requestClient] ∧ { t with req := m.req, arb := m.arb } = m)
    ∧ (ev = .published →
      ∃ t, exec .catalogWriteComplete m = .next t ∧ done t ∧ status t ∧ others t
        ∧ t.stream s = { old with
            counters := { c with published := c.published + 1 }, placements := old.placements + 1 }
        ∧ m.raisedTimes t .published 1 ∧ m.otherClientsSame t [publicationClient, streamClient s, noticeClient]
        ∧ { t with streams := m.streams, reports := m.reports, notice := m.notice, out := m.out, arb := m.arb } = m)
    ∧ (∀ n results, ev = .grabbed n results → m.req.halting = false →
      ∃ t, exec .catalogWriteComplete m = .next t ∧ done t ∧ status t ∧ others t
        ∧ t.stream s = { old with placements := old.placements + 1 }
        ∧ t.req.grabWait = none ∧ m.endsHeld t n (.done results)
        ∧ m.otherClientsSame t [publicationClient, streamClient s, requestClient]
        ∧ { t with streams := m.streams, reports := m.reports, req := m.req, arb := m.arb } = m)
    ∧ (∀ n results, ev = .grabbed n results → m.req.halting = true → m.req.sweep = .taking →
      ∃ t, exec .catalogWriteComplete m = .next t ∧ done t ∧ status t
        ∧ (t.stream s).placements = old.placements + 1 ∧ t.req.grabWait = none ∧ t.req.sweep = .idle
        ∧ m.endsHeld t n (.done results) ∧ (∀ k, k ≠ n → m.endsHeld t k (.refused .aborted))
        ∧ (∀ k, (t.stream k).waitingStop = none ∧ (t.stream k).waitingHold = none)
        ∧ (∀ p, (t.port p).splice = none ∧ (t.port p).waiting = none)
        ∧ { t with
            streams := m.streams, reports := m.reports, ports := m.ports, req := m.req, arb := m.arb } = m)
    ∧ (ev = .returned →
      ∃ t, exec .catalogWriteComplete m = .next t ∧ done t ∧ status t
        ∧ m.otherClientsSame t [publicationClient, streamClient s]
        ∧ { t with reports := m.reports, arb := m.arb } = m)
    ∧ (ev = .expired ∨ ev = .haltReclaimed →
      ∃ t, exec .catalogWriteComplete m = .next t ∧ done t ∧ status t ∧ others t
        ∧ t.stream s = { old with counters := { c with reclaimed := c.reclaimed + 1 } }
        ∧ m.raisedTimes t .reclaimed 1 ∧ m.otherClientsSame t [publicationClient, streamClient s, noticeClient]
        ∧ { t with streams := m.streams, reports := m.reports, notice := m.notice, out := m.out, arb := m.arb } = m)
    ∧ (ev = .lateReturn →
      ∃ t, exec .catalogWriteComplete m = .next t ∧ done t ∧ others t
        ∧ t.stream s = { old with counters := { c with lateReturns := c.lateReturns + 1 } }
        ∧ m.otherClientsSame t [publicationClient] ∧ { t with streams := m.streams, arb := m.arb } = m)

/-- A completed answer write removes the slot from the in-flight set and raises ANSWERED; a completed stream status
write raises STREAM if it reports a transition that does; a completed port status write raises PORT as often as it
reports. A completed count record write raises nothing: the mirror write is over, or, if a raise has come since its
grant, one further write is issued. -/
def Obligations.RecordWritesRaiseNotices : Prop :=
  ∀ (g : Granted) (m : State),
    (∀ n : SlotId, (m.client requestClient).granted.head? = some g → g.burst.purpose = .answerWrite n →
      ∃ t, exec .answerWriteComplete m = .next t ∧ t.req = { m.req with inFlight := m.req.inFlight.set n none }
        ∧ m.raisedTimes t .answered 1
        ∧ t.client requestClient
          = { m.client requestClient with granted := (m.client requestClient).granted.tail }
        ∧ m.otherClientsSame t [requestClient, noticeClient]
        ∧ { t with req := m.req, notice := m.notice, out := m.out, arb := m.arb } = m)
    ∧ (∀ (s : StreamId) (b : Bool), (m.client (streamClient s)).granted.head? = some g →
        g.burst.purpose = .streamStatus b →
      ∃ t, exec (.streamStatusWriteComplete s) m = .next t ∧ m.raisedTimes t .stream (if b = true then 1 else 0)
        ∧ t.client (streamClient s)
          = { m.client (streamClient s) with granted := (m.client (streamClient s)).granted.tail }
        ∧ m.otherClientsSame t [streamClient s, noticeClient]
        ∧ { t with notice := m.notice, out := m.out, arb := m.arb } = m)
    ∧ (∀ (p : PortId) (k : Nat), (m.client (portClient p)).granted.head? = some g → g.burst.purpose = .portStatus k →
      ∃ t, exec (.portStatusWriteComplete p) m = .next t ∧ m.raisedTimes t .port k
        ∧ t.client (portClient p)
          = { m.client (portClient p) with granted := (m.client (portClient p)).granted.tail }
        ∧ m.otherClientsSame t [portClient p, noticeClient]
        ∧ { t with notice := m.notice, out := m.out, arb := m.arb } = m)
    ∧ ((m.client noticeClient).granted.head? = some g →
      let rest := (m.client noticeClient).granted.tail
      (m.notice.mirror = .issued →
        ∃ t, exec .countRecordWriteComplete m = .next t ∧ t.notice = { m.notice with mirror := .none }
          ∧ t.client noticeClient = { m.client noticeClient with granted := rest }
          ∧ m.otherClientsSame t [noticeClient] ∧ { t with notice := m.notice, arb := m.arb } = m)
      ∧ (m.notice.mirror = .issuedAgain →
        ∃ t, exec .countRecordWriteComplete m = .next t ∧ t.notice = { m.notice with mirror := .waiting }
          ∧ t.client noticeClient
            = ⟨(m.client noticeClient).queue ++ [⟨.countRecord, m.dir.statusAddr.toNat + 768, .writeCounts⟩], rest⟩
          ∧ m.otherClientsSame t [noticeClient] ∧ { t with notice := m.notice, arb := m.arb } = m))

/-- A hold ends at its deadline, or at a halt once every stream and port is OFF and the request unit is quiet: the
position is RECLAIMED with its cause and its ticket kept, the holds count is lowered, the bank of an OFF stream with no
claim becomes EMPTY, and the record is written, at a halt for every HELD position in ascending order; the status record
is to follow. The model's choices: the timebase is brought to the due time (log 3); the bytes of a record are those at
the issue of its write (log 17); a status record shows the holds after its own event (log 37); a command whose event is
not there changes nothing (log 1). -/
def Obligations.HoldsExpireAndAreReclaimed : Prop :=
  ∀ m : State,
    let ended := fun (t : State) (s : StreamId) (i : BankIx) (cause : ReclaimCause) =>
      t.bank s i = (
        let b := { m.bank s i with hold := none, catalog := .reclaimed }
        if (m.stream s).state = .off ∧ b.state = .valid ∧ ∀ p : PortId, m.bx.claims[p] ≠ some (s, i)
        then { b with state := .empty, seq := 0, captureTime := 0, lines := 0, flags := ⟨false, false⟩ } else b)
      ∧ t.image s i = { m.image s i with reclaimCause := cause }
    (∀ (s : StreamId) (i : BankIx) (h : Hold) (due : Dword), (m.bank s i).hold = some h → h.deadline = some due →
      ∃ t, exec (.holdExpiry s i) m = .next t ∧ ended t s i .expiry
        ∧ t.time = { m.time with count := if m.time.count.toNat < due.toNat then due else m.time.count }
        ∧ t.publish s = { m.publish s with holds := (m.publish s).holds - 1 }
        ∧ m.clientIssues t publicationClient
            [⟨.catalogWrite s i .expired, m.dir.catalogAddr.toNat + s.val * 512 + i.val * 64,
              .write (t.catalogRecord s i (m.bank s i).lastTicket)⟩]
        ∧ (∀ k j, k ≠ s ∨ j ≠ i → t.bank k j = m.bank k j ∧ t.image k j = m.image k j)
        ∧ (∀ k, k ≠ s → t.publish k = m.publish k) ∧ t.bx.claims = m.bx.claims ∧ t.bx.geometry = m.bx.geometry
        ∧ m.holdReported t s false ∧ m.otherReportsSame t s ∧ m.otherClientsSame t [publicationClient]
        ∧ { t with bx := m.bx, pub := m.pub, reports := m.reports, arb := m.arb, time := m.time } = m)
    ∧ (m.ctl.device = .stopping → (∀ s, (m.stream s).state = .off) → (∀ p, (m.port p).state = .off) →
        m.req.sweep = .idle → (∀ n : SlotId, m.req.inFlight[n] = none) →
      ∃ t, exec .haltReclaim m = .next t
        ∧ (∀ s i, (m.bank s i).catalog = .held → ended t s i .halt)
        ∧ (∀ s i, (m.bank s i).catalog ≠ .held → t.bank s i = m.bank s i ∧ t.image s i = m.image s i)
        ∧ (∀ s, t.publish s = { m.publish s with
            holds := (m.publish s).holds - allBanks.countP fun i => (m.bank s i).catalog == .held })
        ∧ m.clientIssues t publicationClient
            ((allPositions.filter fun q => (m.bank q.1 q.2).catalog == .held).map fun q =>
              ⟨.catalogWrite q.1 q.2 .haltReclaimed, m.dir.catalogAddr.toNat + q.1.val * 512 + q.2.val * 64,
                .write (t.catalogRecord q.1 q.2 (m.bank q.1 q.2).lastTicket)⟩)
        ∧ (m.HoldAccounts → ∀ s, t.reports[s] = m.reports[s]
            ++ (List.range (m.bx.heldCount s)).map fun k =>
              ⟨.off, (m.stream s).freeze, false, m.bx.heldCount s - (k + 1), true⟩)
        ∧ t.bx.claims = m.bx.claims ∧ t.bx.geometry = m.bx.geometry ∧ m.otherClientsSame t [publicationClient]
        ∧ { t with bx := m.bx, pub := m.pub, reports := m.reports, arb := m.arb } = m)
    ∧ (m.ctl.device ≠ .stopping → exec .haltReclaim m = .next m)

/-! ## Output ports and cue walkers -/

/-- The frame that an output frame start of a SHOWING, PARKED or STALLED port shows, chosen after its first two steps: a
claim request to the stream of the current cue where the stream's frames are shown, answered fresh, repeat or none,
and otherwise no claim and fill, or black in STALLED. Every such frame start counts shown, frames and one of fresh,
repeat and fill, and sets the timer one period on. The previous frame's queued reads are withdrawn and its granted
ones given up, and for a claimed bank the reads of rows 0 and 1 are issued into the two entries. The model's choices:
the timebase is brought to the due time (log 3). -/
def Obligations.OutputFrameShown : Prop :=
  ∀ (p : PortId) (due : Dword) (period : Word) (raster : Raster) (m : State),
    (m.port p).frameTimer = some due → (m.port p).framePeriod = some period → (m.port p).raster = some raster →
    (m.port p).state = .showing ∨ (m.port p).state = .parked ∨ (m.port p).state = .stalled →
    let old := m.port p
    let c := old.counters
    ∃ t, exec (.outputFrameStart p) m = .next t
      ∧ t.time = { m.time with count := if m.time.count.toNat < due.toNat then due else m.time.count }
      ∧ (t.port p).frameTimer = some (due + period.setWidth 64)
      ∧ (t.port p).frames = old.frames + 1 ∧ (t.port p).counters.shown = c.shown + 1
      ∧ (
        let q := t.port p
        let reads := fun b : ClaimedBank =>
          let rows := min b.height.toNat raster.height.toNat
          (t.client (.scan p)).queue
            = (if 0 < rows then q.rowBursts b 0 else []) ++ (if 1 < rows then q.rowBursts b 1 else [])
          ∧ q.buffer = #v[if 0 < rows then .reading 0 [] else .free, if 1 < rows then .reading 1 [] else .free]
          ∧ q.nextRow = min 2 rows
        let filled := fun f : ShownFrame =>
          q.shown = f ∧ q.linkLine = 0 ∧ q.claimed = none ∧ q.shownSeq = 0 ∧ t.bx.claims[p] = none
          ∧ (t.client (.scan p)).queue = [] ∧ q.buffer = #v[.free, .free]
          ∧ q.counters.fill = c.fill + 1 ∧ q.counters.fresh = c.fresh ∧ q.counters.repeated = c.repeated
        (q.state = .stalled → filled .black)
        ∧ (∀ cur, q.state ≠ .stalled → q.current = some cur → cur.cue.source = .background →
            filled (.fill cur.cue.fill))
        ∧ ∀ (cur : CurrentCue) (s : StreamId), q.state ≠ .stalled → q.current = some cur →
            cur.cue.source = .stream s →
            let st := m.stream s
            let shows := st.state = .live ∨ st.freeze = .active ∧ (st.state = .seeking ∨ st.state = .lost)
              ∨ st.state = .lost ∧ st.config.map (·.onLoss) = some .last
            let valid := fun i : BankIx => m.bx.inSet s i = true ∧ (m.bank s i).state = .valid
            (¬ shows → filled (.fill cur.cue.fill))
            ∧ (shows → (∀ i, ¬ valid i) → filled (.fill cur.cue.fill))
            ∧ ∀ j, shows → valid j →
                (∀ i, valid i → (m.bank s i).seq.toNat < (m.bank s j).seq.toNat
                  ∨ (m.bank s i).seq = (m.bank s j).seq ∧ j ≤ i) →
                let repeats := ∃ i, m.bx.claims[p] = some (s, i)
                  ∧ (m.bank s j).seq.toNat ≤ (m.bank s i).seq.toNat
                (repeats → ∀ b, old.claimed = some b →
                  q.shown = .bank b cur.cue.fill ∧ q.linkLine = 0 ∧ q.claimed = some b ∧ q.shownSeq = old.shownSeq
                  ∧ reads b
                  ∧ t.bx.claims[p] = m.bx.claims[p] ∧ q.counters.repeated = c.repeated + 1
                  ∧ q.counters.fresh = c.fresh ∧ q.counters.fill = c.fill)
                ∧ (¬ repeats →
                  let b : ClaimedBank := ⟨s, j, BitVec.ofNat 32 (m.bx.addr s j), (m.bank s j).seq,
                    (m.bank s j).captureTime, (m.bank s j).lines, (m.bank s j).flags, (m.bx.geom s).width,
                    (m.bx.geom s).height, (m.bx.geom s).pitch, (m.bx.geom s).format⟩
                  q.shown = .bank b cur.cue.fill ∧ q.linkLine = 0 ∧ q.claimed = some b ∧ q.shownSeq = (m.bank s j).seq
                  ∧ reads b
                  ∧ t.bx.claims[p] = some (s, j) ∧ q.counters.fresh = c.fresh + 1
                  ∧ q.counters.repeated = c.repeated ∧ q.counters.fill = c.fill))
      ∧ (t.client (.scan p)).granted = (m.client (.scan p)).granted.map (fun g => { g with discarded := true })
      ∧ m.retiresOnly t p ∧ m.portFrame t p

/-- What an output frame start does to the cue chain. A NEXT_FRAME splice whose head is READY is taken up first. Else
SHOWING lowers the dwell, and at its end takes the next cue or the head, stalls on a fault, is extended by a late
frame, or parks at the end; PARKED takes a head, a cue or a fault; STALLED takes a head. A status record reports the
entries to PARKED and STALLED and the NOTIFY cue. The model's choices: the bytes of a record are those at the issue
of its write (log 17); a SHOWING port with dwell 0, which no run reaches, is taken as one whose dwell has ended (log
29). -/
def Obligations.OutputChainAdvances : Prop :=
  ∀ (p : PortId) (due : Dword) (m : State),
    (m.port p).frameTimer = some due →
    let old := m.port p
    let ind := (m.walker p).indication
    let next := old.splice.any (fun sp => sp.timing == .nextFrame) && (match ind with | .head _ _ => true | _ => false)
    let ends := if old.dwell = 0 then true else decide (old.dwell = 1)
    let notifies := fun c : Cue => if c.notify = true then 1 else 0
    let became := fun (t : State) (a : Word) (c : Cue) =>
      (t.port p).state = .showing ∧ m.cueIsCurrent t p a c (t.statusOfPort p (notifies c))
    let tookHead := fun (t : State) (a : Word) (c : Cue) =>
      became t a c ∧ (t.port p).splice = none ∧ ∀ sp, old.splice = some sp → m.endsHeld t sp.slot (.done [])
    let stalled := fun (t : State) (a : Word) =>
      (t.port p).state = .stalled ∧ (t.port p).faultCause = .badCue ∧ (t.port p).faultAddr = a
      ∧ (t.port p).current = none ∧ (t.walker p).state = .idle false ∧ (t.port p).splice = old.splice
      ∧ m.clientIssues t (portClient p) (t.statusOfPort p 1)
    let stays := fun t : State =>
      (t.port p).current = old.current ∧ (t.port p).splice = old.splice ∧ t.walker p = m.walker p
      ∧ (t.port p).counters.cueChanges = old.counters.cueChanges
    (∀ a c, ind = .head a c → old.state = .showing ∨ old.state = .parked ∨ old.state = .stalled →
      next = true ∨ old.state ≠ .showing ∨ ends = true →
      ∃ t, exec (.outputFrameStart p) m = .next t ∧ tookHead t a c
        ∧ (t.port p).counters.lateCues = old.counters.lateCues)
    ∧ (old.state = .showing → next = false → ends = false →
      ∃ t, exec (.outputFrameStart p) m = .next t ∧ stays t ∧ (t.port p).state = .showing
        ∧ (t.port p).dwell = old.dwell - 1 ∧ t.client (portClient p) = m.client (portClient p))
    ∧ (∀ a c, ind = .cue a c → old.state = .showing ∧ ends = true ∨ old.state = .parked →
      ∃ t, exec (.outputFrameStart p) m = .next t ∧ became t a c ∧ (t.port p).splice = old.splice)
    ∧ (∀ a, ind = .fault a → old.state = .showing ∧ ends = true ∨ old.state = .parked →
      ∃ t, exec (.outputFrameStart p) m = .next t ∧ stalled t a)
    ∧ (ind = .notYet → old.state = .showing → ends = true →
      ∃ t, exec (.outputFrameStart p) m = .next t ∧ stays t ∧ (t.port p).state = .showing ∧ (t.port p).dwell = 1
        ∧ (t.port p).counters.lateCues = old.counters.lateCues + 1
        ∧ t.client (portClient p) = m.client (portClient p))
    ∧ (ind = .atEnd → old.state = .showing → ends = true →
      ∃ t, exec (.outputFrameStart p) m = .next t ∧ stays t ∧ (t.port p).state = .parked ∧ (t.port p).dwell = 0
        ∧ m.clientIssues t (portClient p) (t.statusOfPort p 1))
    ∧ (old.state = .parked ∧ (ind = .notYet ∨ ind = .atEnd) ∨ old.state = .stalled ∧ (ind = .notYet ∨ ind = .nothing) →
      ∃ t, exec (.outputFrameStart p) m = .next t ∧ stays t ∧ (t.port p).state = old.state
        ∧ (t.port p).dwell = old.dwell ∧ (t.port p).counters.lateCues = old.counters.lateCues
        ∧ t.client (portClient p) = m.client (portClient p))

/-- An output frame start in STARTING takes a READY head, answers START_PORT DONE and shows the first frame, and without
one sends a black frame that no counter counts. In STOPPING the port enters OFF: the timer stops, the claim is
released, STOP_PORT is answered DONE and a pending splice ABORTED, and the walker is cleared. The model's choices: the
timer's next expiry counts from the due time (log 3); the bytes of a record are those at the issue of its write (log
17). -/
def Obligations.StartingAndStoppingPort : Prop :=
  ∀ (p : PortId) (due : Dword) (period : Word) (m : State),
    (m.port p).frameTimer = some due → (m.port p).framePeriod = some period →
    let old := m.port p
    let starts := fun t : State => (t.port p).frameTimer = some (due + period.setWidth 64)
    (∀ a c, old.state = .starting → (m.walker p).indication = .head a c →
      ∃ t, exec (.outputFrameStart p) m = .next t ∧ starts t ∧ (t.port p).state = .showing
        ∧ m.cueIsCurrent t p a c (t.statusOfPort p (if c.notify = true then 1 else 0))
        ∧ (t.port p).waiting = none ∧ (t.port p).counters.shown = old.counters.shown + 1
        ∧ (t.port p).frames = old.frames + 1
        ∧ (∀ n, old.waiting = some (.startPort n) → m.endsHeld t n (.done []))
        ∧ m.retiresOnly t p ∧ m.portFrame t p)
    ∧ (old.state = .starting → (∀ a c, (m.walker p).indication ≠ .head a c) →
      ∃ t, exec (.outputFrameStart p) m = .next t ∧ starts t
        ∧ { t.port p with
            frameTimer := old.frameTimer, shown := old.shown, buffer := old.buffer, linkLine := old.linkLine
            nextRow := old.nextRow, underran := old.underran } = old
        ∧ (t.port p).shown = .black ∧ t.walker p = m.walker p ∧ t.bx = m.bx ∧ t.req = m.req
        ∧ t.client (portClient p) = m.client (portClient p) ∧ m.portFrame t p)
    ∧ (old.state = .stopping →
      ∃ t, exec (.outputFrameStart p) m = .next t
        ∧ t.port p = { old with
            state := .off, frameTimer := none, current := none, dwell := 0, claimed := none, shownSeq := 0
            splice := none, waiting := none, shown := .idle, buffer := #v[.free, .free], linkLine := 0, nextRow := 0
            underran := false }
        ∧ t.bx.claims[p] = none
        ∧ t.walker p = { m.walker p with
            state := .idle false, hops := 0
            discardedRead := (m.walker p).discardedRead || decide ((m.walker p).state = .fetching) }
        ∧ (∀ n, old.waiting = some (.stopPort n) → (∀ sp, old.splice = some sp → sp.slot ≠ n) →
            m.endsHeld t n (.done []))
        ∧ (∀ sp, old.splice = some sp → m.endsHeld t sp.slot (.refused .aborted))
        ∧ (t.client (.scan p)).queue = []
        ∧ m.clientIssues t (portClient p) (t.statusOfPort p 0)
        ∧ m.retiresOnly t p ∧ m.portFrame t p)

/-- Scan-out: the data of a completed read joins its row's entry, which is READY when no read of the row is left; data
given up is discarded. Where the link reaches bank data that is not there, the line underruns and is counted: the
row's queued reads are withdrawn and its granted ones given up. At the end of a line its bytes have gone out and the
link is at the next line, and while rows are left the entry of the line's row takes the next row, whose reads are
issued; with no row left the entry is FREE. A line may end once its row is READY, once it has underrun, or if it shows
no row. The model's choices: the link's progress is given by commands, and when a line may end (log 24); a command
whose event is not there changes nothing (log 1). -/
def Obligations.ScanOutKeepsUp : Prop :=
  ∀ (p : PortId) (m : State),
    let q := m.port p
    let onlyPort := fun t : State => (∀ k, k ≠ p → t.port k = m.port k) ∧ m.otherClientsSame t [.scan p]
    (∀ (g : Granted) (row : Nat) (e : Fin 2) (data : List Byte),
        (m.client (.scan p)).granted.head? = some g → g.burst.purpose = .scanRow row → g.discarded = false →
        q.buffer[e] = .reading row data → (e = 1 → q.buffer[(0 : Fin 2)].row ≠ some row) →
      let more := (m.client (.scan p)).queue.any (fun b => b.purpose == .scanRow row)
        || (m.client (.scan p)).granted.tail.any fun x => x.burst.purpose == .scanRow row
      ∃ t, exec (.scanReadComplete p) m = .next t
        ∧ t.port p = { q with
            buffer := q.buffer.set e
              (if more = true then .reading row (data ++ g.data) else .ready row (data ++ g.data)) }
        ∧ t.client (.scan p)
          = { m.client (.scan p) with granted := (m.client (.scan p)).granted.tail }
        ∧ onlyPort t ∧ { t with ports := m.ports, arb := m.arb } = m)
    ∧ (∀ g : Granted, (m.client (.scan p)).granted.head? = some g → g.discarded = true →
      ∃ t, exec (.scanReadComplete p) m = .next t
        ∧ t.client (.scan p) = { m.client (.scan p) with granted := (m.client (.scan p)).granted.tail }
        ∧ onlyPort t ∧ { t with arb := m.arb } = m)
    ∧ (∀ (b : ClaimedBank) (c : Colour) (r : Raster) (e : Fin 2) (data : List Byte),
        q.shown = .bank b c → q.raster = some r → q.linkLine < min b.height.toNat r.height.toNat →
        q.buffer[e] = .reading q.linkLine data → (e = 1 → q.buffer[(0 : Fin 2)].row ≠ some q.linkLine) →
        q.underran = false →
      ∃ t, exec (.lineUnderrun p) m = .next t
        ∧ t.port p = { q with
            underran := true, counters := { q.counters with underrunLines := q.counters.underrunLines + 1 } }
        ∧ t.client (.scan p) =
          ⟨(m.client (.scan p)).queue.filter (fun x => x.purpose != .scanRow q.linkLine),
            (m.client (.scan p)).granted.map fun x =>
              if x.burst.purpose = .scanRow q.linkLine then { x with discarded := true } else x⟩
        ∧ onlyPort t ∧ { t with ports := m.ports, arb := m.arb } = m)
    ∧ (∀ r : Raster, q.shown ≠ .idle → q.raster = some r → q.linkLine < r.height.toNat → q.lineMayEnd = true →
      ∃ t, exec (.outputLineEnd p) m = .next t
        ∧ t.out = { m.out with lines := m.out.lines.set p q.lineBytes }
        ∧ (t.port p).linkLine = q.linkLine + 1 ∧ (t.port p).underran = false
        ∧ (∀ b c, q.shown = .bank b c → ∀ e : Fin 2, q.buffer[e].row = some q.linkLine →
            (e = 1 → q.buffer[(0 : Fin 2)].row ≠ some q.linkLine) →
            q.nextRow < min b.height.toNat r.height.toNat → q.buffer[1 - e] ≠ .free →
            (t.port p).buffer[e] = .reading q.nextRow [] ∧ (t.port p).nextRow = q.nextRow + 1
            ∧ m.clientIssues t (.scan p) (q.rowBursts b q.nextRow))
        ∧ (∀ b c, q.shown = .bank b c → min b.height.toNat r.height.toNat ≤ q.nextRow →
            (t.port p).nextRow = q.nextRow ∧ t.arb = m.arb
            ∧ (t.port p).buffer = (if q.buffer[(0 : Fin 2)].row = some q.linkLine then q.buffer.set 0 .free
              else if q.buffer[(1 : Fin 2)].row = some q.linkLine then q.buffer.set 1 .free else q.buffer))
        ∧ onlyPort t
        ∧ { t.port p with
            buffer := q.buffer, linkLine := q.linkLine, nextRow := q.nextRow, underran := q.underran } = q
        ∧ { t with ports := m.ports, out := m.out, arb := m.arb } = m)
    ∧ (q.lineMayEnd = false → exec (.outputLineEnd p) m = .next m)
    ∧ (q.lineMayEnd = true ↔
        q.underran = true
        ∨ (¬ ∃ b c r, q.shown = .bank b c ∧ q.raster = some r ∧ q.linkLine < min b.height.toNat r.height.toNat)
        ∨ (∃ data, q.buffer[(0 : Fin 2)] = .ready q.linkLine data)
        ∨ (∃ data, q.buffer[(1 : Fin 2)] = .ready q.linkLine data) ∧ q.buffer[(0 : Fin 2)].row ≠ some q.linkLine)

/-- A line on the output link: two bytes a pixel for every pixel of the raster, first the pixels of the bank's row that
arrived in time, which are those in the row's entry, YC16 bytes as they are and Y8 bytes as luma with chroma 128, and
from there the fill colour, luma on every pixel with Cb on even and Cr on odd ones; black is (16, 128, 128). The reads
of a row are its shown pixels' bytes, at the bank's address plus the row's pitches, in pieces of at most 256. The
model's choices: a line leaves whole at its end (log 24). -/
def Obligations.OutputLineContents : Prop :=
  ∀ (q : Port) (r : Raster), q.raster = some r →
    let fillAt := fun (c : Colour) (x : Nat) => q.lineBytes[2 * x]? = some c.y
      ∧ q.lineBytes[2 * x + 1]? = some (if x % 2 = 0 then c.cb else c.cr)
    (∀ b, q.linkRow = some b ↔ ∃ c, q.shown = .bank b c ∧ q.linkLine < min b.height.toNat r.height.toNat)
    ∧ (∀ (e : Fin 2) (data : List Byte), q.buffer[e] = .reading q.linkLine data ∨ q.buffer[e] = .ready q.linkLine data →
        (e = 1 → q.buffer[(0 : Fin 2)].row ≠ some q.linkLine) → q.lineData = data)
    ∧ ((∀ e : Fin 2, q.buffer[e].row ≠ some q.linkLine) → q.lineData = [])
    ∧ (q.shown = .idle ∨ q.shown = .black → q.shown.colour = ⟨16, 128, 128⟩)
    ∧ (∀ c, q.shown = .fill c → q.shown.colour = c) ∧ (∀ b c, q.shown = .bank b c → q.shown.colour = c)
    ∧ (q.linkRow = none → q.lineBytes.length = 2 * r.width.toNat
      ∧ ∀ x, x < r.width.toNat → fillAt q.shown.colour x)
    ∧ (∀ b : ClaimedBank, q.linkRow = some b → q.lineData.length ≤ r.width.toNat * b.format.bytesPerPixel →
        let n := q.lineData.length / b.format.bytesPerPixel
        q.lineBytes.length = 2 * r.width.toNat
        ∧ (∀ x, n ≤ x → x < r.width.toNat → fillAt q.shown.colour x)
        ∧ (b.format = .yc16 → ∀ k, k < 2 * n → q.lineBytes[k]? = q.lineData[k]?)
        ∧ (b.format = .y8 → ∀ x, x < n →
            q.lineBytes[2 * x]? = q.lineData[x]? ∧ q.lineBytes[2 * x + 1]? = some 128))
    ∧ ∀ (b : ClaimedBank) (row : Nat),
        let bytes := min b.width.toNat r.width.toNat * b.format.bytesPerPixel
        (q.rowBursts b row).flatMap (fun x => List.range' x.addr x.access.size)
          = List.range' (b.addr.toNat + row * b.pitch.toNat) bytes
        ∧ ∀ x ∈ q.rowBursts b row, x.purpose = .scanRow row ∧ 1 ≤ x.access.size ∧ x.access.size ≤ 256
            ∧ x.access = .read x.access.size

/-- A completed cue read. By a link: an invalid cue is held READY with a fault; a cue with SKIP_IF_LOST whose stream is
not LIVE is passed over while the run is shorter than eight; any other is held READY. As a head: a valid one is held;
an invalid one ends a START_PORT with BAD_CUE in OFF, or a SPLICE with BAD_CUE and the old link fetched again. The
read of a cancelled fetch is ignored, and a fetch that waited for it issues its read. A cue is valid exactly when its
mark, source, dwell and link are, and its fields stand at their offsets. The model's choices: the bytes of a record
are those at the issue of its write (log 17). -/
def Obligations.CueReadsDecided : Prop :=
  (∀ (p : PortId) (g : Granted) (m : State),
    (m.client (portClient p)).granted.head? = some g → g.burst.purpose = .cueRead →
    let w := m.walker p
    let a := w.fetchAddr
    let k := (m.port p).counters
    let read : Client := { m.client (portClient p) with granted := (m.client (portClient p)).granted.tail }
    let walkerIs := fun (t : State) (x : Walker) => t.walker p = x ∧ ∀ k, k ≠ p → t.walker k = m.walker k
    let reads := fun (t : State) (bs : List Burst) =>
      t.client (portClient p) = { read with queue := read.queue ++ bs } ∧ m.otherClientsSame t [portClient p]
    (w.state = .fetching → w.fetchOrigin = .link → w.discardedRead = false →
      (decodeCue g.data = none →
        ∃ t, exec (.fetchCompletion p) m = .next t
          ∧ walkerIs t { w with state := .ready ⟨a, .link, none⟩, hops := 0 } ∧ reads t []
          ∧ { t with walkers := m.walkers, arb := m.arb } = m)
      ∧ ∀ c, decodeCue g.data = some c →
        let skips := c.skipIfLost = true ∧ (∃ s, c.source = .stream s ∧ (m.stream s).state ≠ .live)
        (¬ skips ∨ 7 ≤ w.hops →
          ∃ t, exec (.fetchCompletion p) m = .next t
            ∧ walkerIs t { w with state := .ready ⟨a, .link, some c⟩, hops := 0 } ∧ reads t []
            ∧ { t with walkers := m.walkers, arb := m.arb } = m)
        ∧ (skips → w.hops < 7 →
          ∃ t, exec (.fetchCompletion p) m = .next t
            ∧ t.port p = { m.port p with counters := { k with skippedCues := k.skippedCues + 1 } }
            ∧ (∀ k, k ≠ p → t.port k = m.port k)
            ∧ (c.link = none → walkerIs t { w with state := .idle true, hops := 0 } ∧ reads t [])
            ∧ (∀ l, c.link = some l →
                walkerIs t { w with fetchAddr := l, hops := w.hops + 1 } ∧ reads t [⟨.cueRead, l.toNat, .read 32⟩])
            ∧ { t with walkers := m.walkers, ports := m.ports, arb := m.arb } = m))
    ∧ (w.state = .fetching → w.fetchOrigin = .head → w.discardedRead = false →
      (∀ c, decodeCue g.data = some c →
        ∃ t, exec (.headFetchCompletion p) m = .next t
          ∧ walkerIs t { w with state := .ready ⟨a, .head, some c⟩, hops := 0 } ∧ reads t []
          ∧ { t with walkers := m.walkers, arb := m.arb } = m)
      ∧ (decodeCue g.data = none → (m.port p).state = .starting →
        ∃ t, exec (.headFetchCompletion p) m = .next t ∧ (t.port p).state = .off ∧ (t.port p).frameTimer = none
          ∧ (t.port p).faultCause = .badCue ∧ (t.port p).faultAddr = a
          ∧ t.walker p = { w with state := .idle false, hops := 0 }
          ∧ t.bx.claims[p] = none
          ∧ (∀ n, (m.port p).waiting = some (.startPort n) → (m.port p).splice = none →
              m.endsHeld t n (.refused .badCue))
          ∧ (t.client (portClient p)).queue = read.queue ++ t.statusOfPort p 0
          ∧ m.portFrame t p)
      ∧ (decodeCue g.data = none → (m.port p).state ≠ .starting → ∀ sp, (m.port p).splice = some sp →
        ∃ t, exec (.headFetchCompletion p) m = .next t ∧ t.port p = { m.port p with splice := none }
          ∧ m.endsHeld t sp.slot (.refused .badCue)
          ∧ ((m.port p).current = none → t.walker p = { w with state := .idle false, hops := 0 })
          ∧ (∀ cur, (m.port p).current = some cur → cur.cue.link = none →
              t.walker p = { w with state := .idle true, hops := 0 })
          ∧ (∀ cur l, (m.port p).current = some cur → cur.cue.link = some l →
              t.walker p = { w with fetchAddr := l, fetchOrigin := .link, hops := 0 }
              ∧ (t.client (portClient p)).queue
                = read.queue ++ [⟨.cueRead, l.toNat, .read 32⟩] ++ t.statusOfPort p 0)
          ∧ m.portFrame t p))
    ∧ (w.discardedRead = true →
      ∃ t, exec (.discardedReadCompletion p) m = .next t ∧ walkerIs t { w with discardedRead := false }
        ∧ reads t (if w.state = .fetching then [⟨.cueRead, a.toNat, .read 32⟩] else [])
        ∧ { t with walkers := m.walkers, arb := m.arb } = m))
  ∧ ∀ bs : List Byte,
    let source := fieldNat bs 0x01 1 % 16
    let link := fieldWord bs 0x0C
    let valid := fieldNat bs 0x00 1 = 0xC7 ∧ (source < 8 ∨ source = 15) ∧ 1 ≤ fieldNat bs 0x08 2
      ∧ (link = 0xFFFFFFFF ∨ link.toNat % 32 = 0 ∧ link.toNat < 0x40000000)
    (¬ valid → decodeCue bs = none)
    ∧ (valid → ∃ c, decodeCue bs = some c ∧ (∀ s : StreamId, source = s.val → c.source = .stream s)
        ∧ (source = 15 → c.source = .background) ∧ c.skipIfLost = (fieldByte bs 0x02).getLsbD 0
        ∧ c.notify = (fieldByte bs 0x02).getLsbD 1 ∧ c.fill = ⟨fieldByte bs 0x04, fieldByte bs 0x05, fieldByte bs 0x06⟩
        ∧ c.dwell = fieldHalf bs 0x08 ∧ c.tag = fieldHalf bs 0x0A
        ∧ c.link = (if link = 0xFFFFFFFF then none else some link))

/-- START_PORT in OFF with its arguments in range starts the port: STARTING, counters 0, the timer one period ahead and
the head fetched; it waits. BAD_STATE, BAD_FIELD and RANGE refuse it, in this order. The model's choices: the bytes of
a record are those at the issue of its write (log 17). -/
def Obligations.StartPortAccepted : Prop :=
  ∀ (p : PortId) (n : SlotId) (r : Request) (m : State), m.onTurn .startPort n r → r.target.toNat = p.val →
    let old := m.port p
    let width := r.args[(0 : Fin 6)]
    let height := r.args[(1 : Fin 6)]
    let period := r.args[(2 : Fin 6)]
    let head := r.args[(3 : Fin 6)]
    let fields := 64 ≤ width.toNat ∧ width.toNat ≤ 2048 ∧ 64 ≤ height.toNat ∧ height.toNat ≤ 2048
      ∧ 10000 ≤ period.toNat ∧ period.toNat ≤ 100000
    let placed := head.toNat % 32 = 0 ∧ head.toNat < 0x40000000
    let refusedWith := fun code : RefusalCode =>
      ∃ t, exec .startPort m = .next t ∧ m.answeredAtTaking t n r (.refused code) ∧ m.otherClientsSame t [requestClient]
        ∧ { t with req := m.req, arb := m.arb } = m
    (old.state ≠ .off → refusedWith .badState)
    ∧ (old.state = .off → ¬ fields → refusedWith .badField)
    ∧ (old.state = .off → fields → ¬ placed → refusedWith .range)
    ∧ (old.state = .off → fields → placed →
      ∃ t, exec .startPort m = .next t ∧ m.leftWaiting t n r
        ∧ t.port p = { old with
            state := .starting, raster := some ⟨width.setWidth 16, height.setWidth 16⟩, framePeriod := some period
            frameTimer := some (m.now + period.setWidth 64), counters := ⟨0, 0, 0, 0, 0, 0, 0, 0⟩, frames := 0
            faultCause := .none, faultAddr := 0, waiting := some (.startPort n) }
        ∧ (t.walker p).state = .fetching ∧ (t.walker p).fetchAddr = head ∧ (t.walker p).fetchOrigin = .head
        ∧ (t.walker p).hops = 0
        ∧ ((m.walker p).state = .idle false →
            (t.walker p).discardedRead = (m.walker p).discardedRead
            ∧ m.clientIssues t (portClient p)
                ((if (m.walker p).discardedRead = true then [] else [⟨.cueRead, head.toNat, .read 32⟩])
                  ++ t.statusOfPort p 0))
        ∧ m.portFrame t p)

/-- SPLICE in SHOWING, PARKED or STALLED with its head in range is pending with its timing and waits: the walker drops
what it held and fetches the head, and an earlier pending splice is answered SUPERSEDED. STOP_PORT in these states
makes the port STOPPING and waits; in STARTING it closes the port at once, START_PORT answered ABORTED. In other
states each is refused with BAD_STATE, and a SPLICE with a bad head with RANGE. The model's choices: the bytes of a
record are those at the issue of its write (log 17). -/
def Obligations.SpliceAndStopPort : Prop :=
  ∀ (p : PortId) (n : SlotId) (r : Request) (m : State), r.target.toNat = p.val →
    let old := m.port p
    let head := r.args[(0 : Fin 6)]
    let showing := old.state = .showing ∨ old.state = .parked ∨ old.state = .stalled
    let placed := head.toNat % 32 = 0 ∧ head.toNat < 0x40000000
    let refusedWith := fun (c : Instr) (code : RefusalCode) =>
      ∃ t, exec c m = .next t ∧ m.answeredAtTaking t n r (.refused code) ∧ m.otherClientsSame t [requestClient]
        ∧ { t with req := m.req, arb := m.arb } = m
    let cancelled := (m.walker p).discardedRead || decide ((m.walker p).state = .fetching)
    (m.onTurn .splice n r →
      (¬ showing → refusedWith .splice .badState) ∧ (showing → ¬ placed → refusedWith .splice .range)
      ∧ (showing → placed →
        ∃ t, exec .splice m = .next t
          ∧ t.port p = { old with
              splice := some ⟨if r.flags.getLsbD 0 = true then .nextFrame else .cueEnd, head, n⟩ }
          ∧ t.walker p = ⟨.fetching, head, .head, 0, cancelled⟩
          ∧ m.clientIssues t (portClient p)
              ((if cancelled = true then [] else [⟨.cueRead, head.toNat, .read 32⟩]) ++ t.statusOfPort p 0)
          ∧ ((∀ sp, old.splice = some sp → sp.slot ≠ n) → t.req.inFlight[n] = some ⟨r, r.owner, .waiting⟩)
          ∧ (old.splice = none → m.leftWaiting t n r)
          ∧ (∀ sp, old.splice = some sp → sp.slot ≠ n → m.endsHeld t sp.slot (.refused .superseded))
          ∧ t.bx = m.bx ∧ m.portFrame t p))
    ∧ (m.onTurn .stopPort n r →
      (old.state = .off ∨ old.state = .stopping → refusedWith .stopPort .badState)
      ∧ (showing →
        ∃ t, exec .stopPort m = .next t ∧ m.leftWaiting t n r
          ∧ t.port p = { old with state := .stopping, waiting := some (.stopPort n) } ∧ t.walker p = m.walker p
          ∧ m.clientIssues t (portClient p) (t.statusOfPort p 0) ∧ t.bx = m.bx ∧ m.portFrame t p)
      ∧ (old.state = .starting →
        ∃ t, exec .stopPort m = .next t ∧ (t.port p).state = .off ∧ (t.port p).frameTimer = none
          ∧ (t.port p).waiting = none ∧ t.bx.claims[p] = none
          ∧ t.walker p = { m.walker p with state := .idle false, hops := 0, discardedRead := cancelled }
          ∧ t.req.inFlight[n] = some ⟨r, r.owner, .answering⟩
          ∧ (∀ k, old.waiting = some (.startPort k) → k ≠ n → old.splice = none → m.endsHeld t k (.refused .aborted))
          ∧ (old.waiting = none → old.splice = none → m.answeredAtTaking t n r (.done []))
          ∧ m.retiresOnly t p ∧ m.portFrame t p))

/-! ## Records -/

/-- The bytes of the records that the part writes: every record has its size, and its fields stand little-endian at
their offsets with reserved bytes 0; the code of every named value, those of request kinds read as well. -/
def Obligations.WrittenRecordLayouts : Prop :=
  (∀ (r : Request) (ans : Answer) (time : Dword),
    let b := answerBytes r ans time
    b.length = 128 ∧ fieldNat b 0x00 4 = ans.codes.1 ∧ fieldHalf b 0x04 = r.kind ∧ fieldByte b 0x06 = r.target
    ∧ fieldByte b 0x07 = r.flags ∧ fieldHalf b 0x08 = r.tag ∧ fieldNat b 0x0A 2 = 0
    ∧ (∀ k : Fin 6, fieldWord b (0x0C + 4 * k.val) = r.args[k])
    ∧ fieldNat b 0x24 4 = ans.codes.2
    ∧ (∀ k : Fin 16, some (fieldWord b (0x28 + 4 * k.val)) = ans.results[k.val]?)
    ∧ fieldNat b 0x68 8 = time.toNat ∧ b.drop 0x70 = List.replicate 16 0)
  ∧ (∀ (s : CatalogState) (ticket : Half) (im : CatalogImage) (addr : Word) (g : Geometry),
    let b := catalogBytes s ticket im addr.toNat g
    b.length = 60 ∧ fieldNat b 0x00 1 = s.code ∧ fieldNat b 0x01 1 = reasonCode im.reason
    ∧ fieldNat b 0x02 1 = im.reclaimCause.code ∧ fieldNat b 0x03 1 = im.flags.code ∧ fieldHalf b 0x04 = ticket
    ∧ fieldHalf b 0x06 = im.lines ∧ fieldNat b 0x08 8 = im.seq.toNat ∧ fieldNat b 0x10 8 = im.captureTime.toNat
    ∧ fieldWord b 0x18 = addr ∧ fieldHalf b 0x1C = g.width ∧ fieldHalf b 0x1E = g.height ∧ fieldHalf b 0x20 = g.pitch
    ∧ fieldNat b 0x22 1 = g.format.code ∧ b.drop 0x23 = List.replicate 25 0)
  ∧ (∀ (s : StreamState) (f : FreezeMode) (c : BreakCause) (holds : Nat) (seq : Dword) (n : Word) (time : Dword),
    let b := streamStatusBytes s f c holds seq n time
    b.length = 64 ∧ fieldNat b 0x00 1 = s.code ∧ fieldNat b 0x01 1 = f.code ∧ fieldNat b 0x02 1 = c.code
    ∧ fieldNat b 0x03 1 = 0 ∧ fieldNat b 0x14 4 = 0 ∧ (holds < 2 ^ 32 → fieldNat b 0x04 4 = holds)
    ∧ fieldNat b 0x08 8 = seq.toNat ∧ fieldWord b 0x10 = n
    ∧ fieldNat b 0x18 8 = time.toNat ∧ b.drop 0x20 = List.replicate 32 0)
  ∧ (∀ (q : Port) (next : Option Word) (time : Dword),
    let b := portStatusBytes q next time
    b.length = 64 ∧ fieldNat b 0x00 1 = q.state.code ∧ fieldNat b 0x01 1 = q.faultCause.code
    ∧ fieldNat b 0x02 1 = spliceCode q.splice ∧ fieldNat b 0x03 1 = sourceCode q.current
    ∧ fieldWord b 0x04 = (q.current.map (·.addr)).getD 0xFFFFFFFF
    ∧ fieldHalf b 0x08 = (q.current.map (·.cue.tag)).getD 0 ∧ fieldWord b 0x0C = next.getD 0xFFFFFFFF
    ∧ fieldWord b 0x10 = (q.splice.map (·.head)).getD 0 ∧ fieldWord b 0x14 = q.faultAddr
    ∧ fieldNat b 0x18 8 = q.shownSeq.toNat ∧ fieldWord b 0x20 = q.frames ∧ fieldNat b 0x28 8 = time.toNat
    ∧ fieldHalf b 0x30 = (q.raster.map (·.width)).getD 0 ∧ fieldHalf b 0x32 = (q.raster.map (·.height)).getD 0
    ∧ fieldNat b 0x0A 2 = 0 ∧ fieldNat b 0x24 4 = 0 ∧ fieldWord b 0x34 = q.framePeriod.getD 0
    ∧ b.drop 0x38 = List.replicate 8 0)
  ∧ (∀ counts : Vector Word 6,
    let b := countRecordBytes counts
    b.length = 64 ∧ (∀ k : Fin 6, fieldWord b (4 * k.val) = counts[k]) ∧ b.drop 24 = List.replicate 40 0)
  ∧ (∀ rs, (Answer.done rs).codes = (3, 0) ∧ (Answer.done rs).results = (rs ++ List.replicate 16 0).take 16)
  ∧ (∀ c, (Answer.refused c).codes = (4, c.code) ∧ (Answer.refused c).results = List.replicate 16 0)
  ∧ [RefusalCode.badKind, .badTarget, .badState, .badField, .range, .overlap, .holdsRemain, .noFrame, .quota, .badCue,
      .superseded, .aborted].map RefusalCode.code = [1, 2, 3, 4, 5, 6, 7, 8, 9, 10, 11, 12]
  ∧ [0x01, 0x10, 0x11, 0x12, 0x13, 0x14, 0x20, 0x30, 0x31, 0x32, 0x33].map RequestKind.ofCode
    = [some .nop, some .adoptStream, some .stopStream, some .holdStream, some .resumeStream, some .queryStream,
      some .grab, some .startPort, some .splice, some .stopPort, some .queryPort]
  ∧ (∀ k : Half, k ∉ [0x01, 0x10, 0x11, 0x12, 0x13, 0x14, 0x20, 0x30, 0x31, 0x32, 0x33] → RequestKind.ofCode k = none)
  ∧ [CatalogState.idle, .held, .reclaimed].map CatalogState.code = [0, 1, 2]
  ∧ [none, some HoldReason.published, some .grabbed].map reasonCode = [0, 1, 2]
  ∧ [ReclaimCause.none, .expiry, .halt].map ReclaimCause.code = [0, 1, 2]
  ∧ (∀ f : FrameFlags, f.code = (if f.truncated = true then 1 else 0) + (if f.narrow = true then 2 else 0))
  ∧ [Format.yc16, .y8].map Format.code = [1, 2]
  ∧ [StreamState.off, .seeking, .live, .lost, .draining].map StreamState.code = [0, 1, 2, 3, 4]
  ∧ [FreezeMode.none, .pending, .active].map FreezeMode.code = [0, 1, 2]
  ∧ [BreakCause.none, .interrupted, .overrun, .short, .lost, .drainCut].map BreakCause.code = [0, 1, 2, 3, 4, 5]
  ∧ [PortState.off, .starting, .showing, .parked, .stalled, .stopping].map PortState.code = [0, 1, 2, 3, 4, 5]
  ∧ [PortFault.none, .badCue].map PortFault.code = [0, 1]
  ∧ spliceCode none = 0 ∧ (∀ a n, spliceCode (some ⟨.cueEnd, a, n⟩) = 1 ∧ spliceCode (some ⟨.nextFrame, a, n⟩) = 2)
  ∧ sourceCode none = 0xFF
  ∧ ∀ c : CurrentCue, (∀ s, c.cue.source = .stream s → sourceCode (some c) = s.val)
    ∧ (c.cue.source = .background → sourceCode (some c) = 15)

/-! ## Run control -/

/-- The checks on a directory in order, the first failure being the fault cause: mark, version, slot count, sweep
period, placement of the four regions, overlap of any two of the five. -/
def Obligations.DirectoryChecks : Prop :=
  ∀ (base : Word) (bs : List Byte),
    let table := (fieldWord bs 0x08).toNat
    let board := (fieldWord bs 0x0C).toNat
    let slots := (fieldWord bs 0x10).toNat
    let catalog := (fieldWord bs 0x14).toNat
    let status := (fieldWord bs 0x18).toNat
    let period := (fieldWord bs 0x1C).toNat
    let marked := fieldNat bs 0x00 4 = 0x6E7A3430
    let versioned := fieldNat bs 0x04 4 = 1
    let slotsOk := 1 ≤ slots ∧ slots ≤ 32
    let periodOk := 1 ≤ period ∧ period ≤ 255
    let placed := (table % 64 = 0 ∧ table + 512 ≤ 0x40000000) ∧ (board % 128 = 0 ∧ board + slots * 128 ≤ 0x40000000)
      ∧ (catalog % 4096 = 0 ∧ catalog + 4096 ≤ 0x40000000) ∧ status % 1024 = 0 ∧ status + 1024 ≤ 0x40000000
    let regions : Vector (Nat × Nat) 5 :=
      #v[(base.toNat, 64), (table, 512), (board, slots * 128), (catalog, 4096), (status, 1024)]
    let overlap := ∃ a b : Fin 5, a < b ∧ regions[a].1 < regions[b].1 + regions[b].2
      ∧ regions[b].1 < regions[a].1 + regions[a].2
    (¬ marked → directoryFault base bs = some .badMark)
    ∧ (marked → ¬ versioned → directoryFault base bs = some .badVersion)
    ∧ (marked → versioned → ¬ slotsOk → directoryFault base bs = some .badSlotCount)
    ∧ (marked → versioned → slotsOk → ¬ periodOk → directoryFault base bs = some .badPeriod)
    ∧ (marked → versioned → slotsOk → periodOk → ¬ placed → directoryFault base bs = some .badRegion)
    ∧ (marked → versioned → slotsOk → periodOk → placed → overlap → directoryFault base bs = some .regionOverlap)
    ∧ (marked → versioned → slotsOk → periodOk → placed → ¬ overlap → directoryFault base bs = none)

/-- The directory read of a load is issued by run control once no WINDOW burst is ahead of it, and not before. It
completes: with run 0 the device is HALTED; a directory that fails a check makes it FAULTED with the cause and raises
DEVICE; one that passes is copied, and the thirteen records of the status area are written, streams, ports and counts
in this order. The last of them completed, the device is RUNNING with the sweep timer started; with run 0 it goes on
as a RUNNING device whose run is lowered. The model's choices: the bytes of a record are those at the issue of its
write (log 17); the thirteen writes are issued together and carry one time (log 43); a load is held for the window
bursts before it (log 16). -/
def Obligations.LoadReadsDirectory : Prop :=
  ∀ m : State,
    (m.ctl.load = .toIssue → m.ep.windowAhead = 0 →
      ∃ t, exec .directoryReadIssue m = .next t ∧ t.ctl = { m.ctl with load := .reading }
        ∧ m.clientIssues t (.control 0) [⟨.directoryRead, m.ctl.dirbase.toNat, .read 64⟩]
        ∧ m.otherClientsSame t [.control 0] ∧ { t with ctl := m.ctl, arb := m.arb } = m)
    ∧ (m.ep.windowAhead ≠ 0 → exec .directoryReadIssue m = .next m)
    ∧ ∀ g : Granted, (m.client (.control 0)).granted.head? = some g →
    let read := { m.client (.control 0) with granted := (m.client (.control 0)).granted.tail }
    let quiet := fun t : State => t.client (.control 0) = read ∧ m.otherClientsSame t [.control 0]
    let status := (fieldWord g.data 0x18).toNat
    (g.burst.purpose = .directoryRead → m.ctl.run = false →
      ∃ t, exec .directoryReadComplete m = .next t ∧ t.ctl = { m.ctl with device := .halted, load := .none }
        ∧ quiet t ∧ { t with ctl := m.ctl, arb := m.arb } = m)
    ∧ (∀ cause, g.burst.purpose = .directoryRead → m.ctl.run = true →
        directoryFault m.ctl.dirbase g.data = some cause →
      ∃ t, exec .directoryReadComplete m = .next t
        ∧ t.ctl = { m.ctl with device := .faulted, faultCause := cause, load := .none }
        ∧ m.raisedTimes t .device 1 ∧ quiet t
        ∧ { t with ctl := m.ctl, notice := m.notice, out := m.out, arb := m.arb } = m)
    ∧ (g.burst.purpose = .directoryRead → m.ctl.run = true → directoryFault m.ctl.dirbase g.data = none →
      ∃ t, exec .directoryReadComplete m = .next t
        ∧ t.ctl = { m.ctl with
            load := .initialising
            dirCopy := some ⟨m.ctl.dirbase, fieldWord g.data 0x08, fieldWord g.data 0x0C, fieldWord g.data 0x10,
              fieldWord g.data 0x14, fieldWord g.data 0x18, fieldWord g.data 0x1C⟩ }
        ∧ t.client (.control 0) = { read with queue := read.queue
            ++ (allStreams.map fun s => ⟨.statusInit false, status + s.val * 64,
                .write (streamStatusBytes .off .none .none 0 0 0 m.now)⟩)
            ++ (allPorts.map fun p => ⟨.statusInit false, status + 512 + p.val * 64,
                .write (portStatusBytes Port.reset none m.now)⟩)
            ++ [⟨.statusInit true, status + 768, .write (countRecordBytes m.notice.counts)⟩] }
        ∧ m.otherClientsSame t [.control 0] ∧ { t with ctl := m.ctl, arb := m.arb } = m)
    ∧ (g.burst.purpose = .statusInit true →
      let running := { m with
        arb := m.arb.complete (.control 0), ctl := { m.ctl with device := .running, load := .none }
        req := { m.req with sweepTimer := some (m.now + BitVec.ofNat 64 (m.dir.sweepPeriod.toNat * 125)) } }
      (m.ctl.run = true → exec .statusInitComplete m = .next running)
      ∧ (m.ctl.run = false →
        ∃ t, exec .statusInitComplete m = .next t ∧ t.ctl.device = .stopping
          ∧ exec (.run 0) { running with ctl := { running.ctl with run := true } } = .next t))

/-- The halt is complete when every stream and port is OFF, the request unit is quiet, no position is HELD, nothing that
the part issued to CONTROL is outstanding and no count record write is owed: the device is HALTED and raises DEVICE,
and with run 1 goes on to LOADING at once. Before that nothing happens. The model's choices: the model's reading of
what is outstanding (log 23); a command whose event is not there changes nothing (log 1). -/
def Obligations.HaltCompletes : Prop :=
  ∀ m : State,
    let done := m.ctl.device = .stopping ∧ (∀ s, (m.stream s).state = .off) ∧ (∀ p, (m.port p).state = .off)
      ∧ m.req.sweep = .idle ∧ (∀ n : SlotId, m.req.inFlight[n] = none) ∧ (∀ s i, (m.bank s i).catalog ≠ .held)
      ∧ (∀ k : Fin 16, (m.client (.control k)).queue = [] ∧ (m.client (.control k)).granted = [])
      ∧ m.notice.mirror = .none
    (done → ∃ t, exec .haltComplete m = .next t
      ∧ t.ctl = (if m.ctl.run = true then
          { m.ctl with device := .loading, faultCause := .none, load := .toIssue }
        else { m.ctl with device := .halted })
      ∧ t.req = { m.req with halting := false } ∧ m.raisedTimes t .device 1
      ∧ m.otherClientsSame t [noticeClient]
      ∧ { t with ctl := m.ctl, req := m.req, notice := m.notice, out := m.out, arb := m.arb } = m)
    ∧ (¬ done → exec .haltComplete m = .next m)

/-! ## What every step keeps -/

/-- Exchange memory keeps its canonical form: sorted by address, with no entry equal to what an unlisted address reads
as. The form, and the byte that an unlisted address reads as, are the model's own choice of representation (log 4):
no rule of the spec states them. -/
def Obligations.StepKeepsMemoryCanonical : Prop :=
  ∀ m t : State, step m = .next t → Memory.wf m.mem = true → Memory.wf t.mem = true

/-- A bank that a port claims or that the host holds stays VALID. -/
def Obligations.StepKeepsMarkedBanksValid : Prop :=
  ∀ m t : State, step m = .next t → m.MarkedValid → t.MarkedValid

/-- Capture ports write only into their stream's FILLING bank, within its rows. -/
def Obligations.StepKeepsCaptureSafe : Prop :=
  ∀ m t : State, step m = .next t → m.CaptureSafe → t.CaptureSafe

/-- The accounts of streams, ports and holds balance, each by itself, and so do the status record writes that wait: as
many await a catalog record write as are outstanding, the first of them does, and the last shows the present holds (log
37). -/
def Obligations.StepKeepsAccounts : Prop :=
  ∀ m t : State, step m = .next t →
    (m.StreamAccounts → t.StreamAccounts) ∧ (m.PortAccounts → t.PortAccounts) ∧ (m.HoldAccounts → t.HoldAccounts)
    ∧ (m.ReportsAgree → t.ReportsAgree)

/-- Each port's claimed bank stays the one its entry of the claim table names, and a port in OFF or STARTING claims
none; the floor counts, the hop counts and DIRBASE stay in their ranges. -/
def Obligations.StepKeepsClaimsAndBounds : Prop :=
  ∀ m t : State, step m = .next t →
    (m.ClaimsAgree → t.ClaimsAgree) ∧ (m.FloorBounds → t.FloorBounds) ∧ (m.HopBounds → t.HopBounds)
    ∧ (m.DirbaseAligned → t.DirbaseAligned)

/-- The properties that every step keeps hold right after reset. -/
def Obligations.ResetIsSafe : Prop :=
  Memory.wf State.reset.mem = true ∧ State.reset.MarkedValid ∧ State.reset.ClaimsAgree ∧ State.reset.CaptureSafe
  ∧ State.reset.StreamAccounts ∧ State.reset.PortAccounts ∧ State.reset.HoldAccounts
  ∧ State.reset.ReportsAgree ∧ State.reset.FloorBounds
  ∧ State.reset.HopBounds ∧ State.reset.DirbaseAligned
end

