-- ==== Sys2Proof/Laws/State.lean ====
section
/-! SUPPORT. What each updater of State changes and what it leaves: one lemma per field, true by rfl, and the reading of
one stream, port, walker, capture port, bank, publish state or client after an update. -/

namespace Sys2Proof.Machine

variable (m : State)

/-! ## modStream -/

@[simp] theorem State.modStream_ctl (s : StreamId) (f : Stream → Stream) : (m.modStream s f).ctl = m.ctl := rfl
@[simp] theorem State.modStream_time (s : StreamId) (f : Stream → Stream) : (m.modStream s f).time = m.time := rfl
@[simp] theorem State.modStream_ep (s : StreamId) (f : Stream → Stream) : (m.modStream s f).ep = m.ep := rfl
@[simp] theorem State.modStream_notice (s : StreamId) (f : Stream → Stream) : (m.modStream s f).notice = m.notice := rfl
@[simp] theorem State.modStream_req (s : StreamId) (f : Stream → Stream) : (m.modStream s f).req = m.req := rfl
@[simp] theorem State.modStream_bx (s : StreamId) (f : Stream → Stream) : (m.modStream s f).bx = m.bx := rfl
@[simp] theorem State.modStream_pub (s : StreamId) (f : Stream → Stream) : (m.modStream s f).pub = m.pub := rfl
@[simp] theorem State.modStream_capture (s : StreamId) (f : Stream → Stream) : (m.modStream s f).capture = m.capture := rfl
@[simp] theorem State.modStream_walkers (s : StreamId) (f : Stream → Stream) : (m.modStream s f).walkers = m.walkers := rfl
@[simp] theorem State.modStream_ports (s : StreamId) (f : Stream → Stream) : (m.modStream s f).ports = m.ports := rfl
@[simp] theorem State.modStream_arb (s : StreamId) (f : Stream → Stream) : (m.modStream s f).arb = m.arb := rfl
@[simp] theorem State.modStream_mem (s : StreamId) (f : Stream → Stream) : (m.modStream s f).mem = m.mem := rfl
@[simp] theorem State.modStream_out (s : StreamId) (f : Stream → Stream) : (m.modStream s f).out = m.out := rfl
@[simp] theorem State.modStream_reports (s : StreamId) (f : Stream → Stream) : (m.modStream s f).reports = m.reports := rfl
@[simp] theorem State.modStream_pending (s : StreamId) (f : Stream → Stream) : (m.modStream s f).pending = m.pending := rfl

/-! ## modCapture -/

@[simp] theorem State.modCapture_ctl (s : StreamId) (f : CapturePort → CapturePort) : (m.modCapture s f).ctl = m.ctl := rfl
@[simp] theorem State.modCapture_time (s : StreamId) (f : CapturePort → CapturePort) : (m.modCapture s f).time = m.time := rfl
@[simp] theorem State.modCapture_ep (s : StreamId) (f : CapturePort → CapturePort) : (m.modCapture s f).ep = m.ep := rfl
@[simp] theorem State.modCapture_notice (s : StreamId) (f : CapturePort → CapturePort) : (m.modCapture s f).notice = m.notice := rfl
@[simp] theorem State.modCapture_req (s : StreamId) (f : CapturePort → CapturePort) : (m.modCapture s f).req = m.req := rfl
@[simp] theorem State.modCapture_bx (s : StreamId) (f : CapturePort → CapturePort) : (m.modCapture s f).bx = m.bx := rfl
@[simp] theorem State.modCapture_pub (s : StreamId) (f : CapturePort → CapturePort) : (m.modCapture s f).pub = m.pub := rfl
@[simp] theorem State.modCapture_streams (s : StreamId) (f : CapturePort → CapturePort) : (m.modCapture s f).streams = m.streams := rfl
@[simp] theorem State.modCapture_walkers (s : StreamId) (f : CapturePort → CapturePort) : (m.modCapture s f).walkers = m.walkers := rfl
@[simp] theorem State.modCapture_ports (s : StreamId) (f : CapturePort → CapturePort) : (m.modCapture s f).ports = m.ports := rfl
@[simp] theorem State.modCapture_arb (s : StreamId) (f : CapturePort → CapturePort) : (m.modCapture s f).arb = m.arb := rfl
@[simp] theorem State.modCapture_mem (s : StreamId) (f : CapturePort → CapturePort) : (m.modCapture s f).mem = m.mem := rfl
@[simp] theorem State.modCapture_out (s : StreamId) (f : CapturePort → CapturePort) : (m.modCapture s f).out = m.out := rfl
@[simp] theorem State.modCapture_reports (s : StreamId) (f : CapturePort → CapturePort) : (m.modCapture s f).reports = m.reports := rfl
@[simp] theorem State.modCapture_pending (s : StreamId) (f : CapturePort → CapturePort) : (m.modCapture s f).pending = m.pending := rfl

/-! ## modPort -/

@[simp] theorem State.modPort_ctl (p : PortId) (f : Port → Port) : (m.modPort p f).ctl = m.ctl := rfl
@[simp] theorem State.modPort_time (p : PortId) (f : Port → Port) : (m.modPort p f).time = m.time := rfl
@[simp] theorem State.modPort_ep (p : PortId) (f : Port → Port) : (m.modPort p f).ep = m.ep := rfl
@[simp] theorem State.modPort_notice (p : PortId) (f : Port → Port) : (m.modPort p f).notice = m.notice := rfl
@[simp] theorem State.modPort_req (p : PortId) (f : Port → Port) : (m.modPort p f).req = m.req := rfl
@[simp] theorem State.modPort_bx (p : PortId) (f : Port → Port) : (m.modPort p f).bx = m.bx := rfl
@[simp] theorem State.modPort_pub (p : PortId) (f : Port → Port) : (m.modPort p f).pub = m.pub := rfl
@[simp] theorem State.modPort_streams (p : PortId) (f : Port → Port) : (m.modPort p f).streams = m.streams := rfl
@[simp] theorem State.modPort_capture (p : PortId) (f : Port → Port) : (m.modPort p f).capture = m.capture := rfl
@[simp] theorem State.modPort_walkers (p : PortId) (f : Port → Port) : (m.modPort p f).walkers = m.walkers := rfl
@[simp] theorem State.modPort_arb (p : PortId) (f : Port → Port) : (m.modPort p f).arb = m.arb := rfl
@[simp] theorem State.modPort_mem (p : PortId) (f : Port → Port) : (m.modPort p f).mem = m.mem := rfl
@[simp] theorem State.modPort_out (p : PortId) (f : Port → Port) : (m.modPort p f).out = m.out := rfl
@[simp] theorem State.modPort_reports (p : PortId) (f : Port → Port) : (m.modPort p f).reports = m.reports := rfl
@[simp] theorem State.modPort_pending (p : PortId) (f : Port → Port) : (m.modPort p f).pending = m.pending := rfl

/-! ## modWalker -/

@[simp] theorem State.modWalker_ctl (p : PortId) (f : Walker → Walker) : (m.modWalker p f).ctl = m.ctl := rfl
@[simp] theorem State.modWalker_time (p : PortId) (f : Walker → Walker) : (m.modWalker p f).time = m.time := rfl
@[simp] theorem State.modWalker_ep (p : PortId) (f : Walker → Walker) : (m.modWalker p f).ep = m.ep := rfl
@[simp] theorem State.modWalker_notice (p : PortId) (f : Walker → Walker) : (m.modWalker p f).notice = m.notice := rfl
@[simp] theorem State.modWalker_req (p : PortId) (f : Walker → Walker) : (m.modWalker p f).req = m.req := rfl
@[simp] theorem State.modWalker_bx (p : PortId) (f : Walker → Walker) : (m.modWalker p f).bx = m.bx := rfl
@[simp] theorem State.modWalker_pub (p : PortId) (f : Walker → Walker) : (m.modWalker p f).pub = m.pub := rfl
@[simp] theorem State.modWalker_streams (p : PortId) (f : Walker → Walker) : (m.modWalker p f).streams = m.streams := rfl
@[simp] theorem State.modWalker_capture (p : PortId) (f : Walker → Walker) : (m.modWalker p f).capture = m.capture := rfl
@[simp] theorem State.modWalker_ports (p : PortId) (f : Walker → Walker) : (m.modWalker p f).ports = m.ports := rfl
@[simp] theorem State.modWalker_arb (p : PortId) (f : Walker → Walker) : (m.modWalker p f).arb = m.arb := rfl
@[simp] theorem State.modWalker_mem (p : PortId) (f : Walker → Walker) : (m.modWalker p f).mem = m.mem := rfl
@[simp] theorem State.modWalker_out (p : PortId) (f : Walker → Walker) : (m.modWalker p f).out = m.out := rfl
@[simp] theorem State.modWalker_reports (p : PortId) (f : Walker → Walker) : (m.modWalker p f).reports = m.reports := rfl
@[simp] theorem State.modWalker_pending (p : PortId) (f : Walker → Walker) : (m.modWalker p f).pending = m.pending := rfl

/-! ## modPublish -/

@[simp] theorem State.modPublish_ctl (s : StreamId) (f : PublishState → PublishState) : (m.modPublish s f).ctl = m.ctl := rfl
@[simp] theorem State.modPublish_time (s : StreamId) (f : PublishState → PublishState) : (m.modPublish s f).time = m.time := rfl
@[simp] theorem State.modPublish_ep (s : StreamId) (f : PublishState → PublishState) : (m.modPublish s f).ep = m.ep := rfl
@[simp] theorem State.modPublish_notice (s : StreamId) (f : PublishState → PublishState) : (m.modPublish s f).notice = m.notice := rfl
@[simp] theorem State.modPublish_req (s : StreamId) (f : PublishState → PublishState) : (m.modPublish s f).req = m.req := rfl
@[simp] theorem State.modPublish_bx (s : StreamId) (f : PublishState → PublishState) : (m.modPublish s f).bx = m.bx := rfl
@[simp] theorem State.modPublish_streams (s : StreamId) (f : PublishState → PublishState) : (m.modPublish s f).streams = m.streams := rfl
@[simp] theorem State.modPublish_capture (s : StreamId) (f : PublishState → PublishState) : (m.modPublish s f).capture = m.capture := rfl
@[simp] theorem State.modPublish_walkers (s : StreamId) (f : PublishState → PublishState) : (m.modPublish s f).walkers = m.walkers := rfl
@[simp] theorem State.modPublish_ports (s : StreamId) (f : PublishState → PublishState) : (m.modPublish s f).ports = m.ports := rfl
@[simp] theorem State.modPublish_arb (s : StreamId) (f : PublishState → PublishState) : (m.modPublish s f).arb = m.arb := rfl
@[simp] theorem State.modPublish_mem (s : StreamId) (f : PublishState → PublishState) : (m.modPublish s f).mem = m.mem := rfl
@[simp] theorem State.modPublish_out (s : StreamId) (f : PublishState → PublishState) : (m.modPublish s f).out = m.out := rfl
@[simp] theorem State.modPublish_reports (s : StreamId) (f : PublishState → PublishState) : (m.modPublish s f).reports = m.reports := rfl
@[simp] theorem State.modPublish_pending (s : StreamId) (f : PublishState → PublishState) : (m.modPublish s f).pending = m.pending := rfl

/-! ## modImage -/

@[simp] theorem State.modImage_ctl (s : StreamId) (i : BankIx) (f : CatalogImage → CatalogImage) : (m.modImage s i f).ctl = m.ctl := rfl
@[simp] theorem State.modImage_time (s : StreamId) (i : BankIx) (f : CatalogImage → CatalogImage) : (m.modImage s i f).time = m.time := rfl
@[simp] theorem State.modImage_ep (s : StreamId) (i : BankIx) (f : CatalogImage → CatalogImage) : (m.modImage s i f).ep = m.ep := rfl
@[simp] theorem State.modImage_notice (s : StreamId) (i : BankIx) (f : CatalogImage → CatalogImage) : (m.modImage s i f).notice = m.notice := rfl
@[simp] theorem State.modImage_req (s : StreamId) (i : BankIx) (f : CatalogImage → CatalogImage) : (m.modImage s i f).req = m.req := rfl
@[simp] theorem State.modImage_bx (s : StreamId) (i : BankIx) (f : CatalogImage → CatalogImage) : (m.modImage s i f).bx = m.bx := rfl
@[simp] theorem State.modImage_streams (s : StreamId) (i : BankIx) (f : CatalogImage → CatalogImage) : (m.modImage s i f).streams = m.streams := rfl
@[simp] theorem State.modImage_capture (s : StreamId) (i : BankIx) (f : CatalogImage → CatalogImage) : (m.modImage s i f).capture = m.capture := rfl
@[simp] theorem State.modImage_walkers (s : StreamId) (i : BankIx) (f : CatalogImage → CatalogImage) : (m.modImage s i f).walkers = m.walkers := rfl
@[simp] theorem State.modImage_ports (s : StreamId) (i : BankIx) (f : CatalogImage → CatalogImage) : (m.modImage s i f).ports = m.ports := rfl
@[simp] theorem State.modImage_arb (s : StreamId) (i : BankIx) (f : CatalogImage → CatalogImage) : (m.modImage s i f).arb = m.arb := rfl
@[simp] theorem State.modImage_mem (s : StreamId) (i : BankIx) (f : CatalogImage → CatalogImage) : (m.modImage s i f).mem = m.mem := rfl
@[simp] theorem State.modImage_out (s : StreamId) (i : BankIx) (f : CatalogImage → CatalogImage) : (m.modImage s i f).out = m.out := rfl
@[simp] theorem State.modImage_reports (s : StreamId) (i : BankIx) (f : CatalogImage → CatalogImage) : (m.modImage s i f).reports = m.reports := rfl
@[simp] theorem State.modImage_pending (s : StreamId) (i : BankIx) (f : CatalogImage → CatalogImage) : (m.modImage s i f).pending = m.pending := rfl

/-! ## modReq -/

@[simp] theorem State.modReq_ctl (f : RequestUnit → RequestUnit) : (m.modReq f).ctl = m.ctl := rfl
@[simp] theorem State.modReq_time (f : RequestUnit → RequestUnit) : (m.modReq f).time = m.time := rfl
@[simp] theorem State.modReq_ep (f : RequestUnit → RequestUnit) : (m.modReq f).ep = m.ep := rfl
@[simp] theorem State.modReq_notice (f : RequestUnit → RequestUnit) : (m.modReq f).notice = m.notice := rfl
@[simp] theorem State.modReq_bx (f : RequestUnit → RequestUnit) : (m.modReq f).bx = m.bx := rfl
@[simp] theorem State.modReq_pub (f : RequestUnit → RequestUnit) : (m.modReq f).pub = m.pub := rfl
@[simp] theorem State.modReq_streams (f : RequestUnit → RequestUnit) : (m.modReq f).streams = m.streams := rfl
@[simp] theorem State.modReq_capture (f : RequestUnit → RequestUnit) : (m.modReq f).capture = m.capture := rfl
@[simp] theorem State.modReq_walkers (f : RequestUnit → RequestUnit) : (m.modReq f).walkers = m.walkers := rfl
@[simp] theorem State.modReq_ports (f : RequestUnit → RequestUnit) : (m.modReq f).ports = m.ports := rfl
@[simp] theorem State.modReq_arb (f : RequestUnit → RequestUnit) : (m.modReq f).arb = m.arb := rfl
@[simp] theorem State.modReq_mem (f : RequestUnit → RequestUnit) : (m.modReq f).mem = m.mem := rfl
@[simp] theorem State.modReq_out (f : RequestUnit → RequestUnit) : (m.modReq f).out = m.out := rfl
@[simp] theorem State.modReq_reports (f : RequestUnit → RequestUnit) : (m.modReq f).reports = m.reports := rfl
@[simp] theorem State.modReq_pending (f : RequestUnit → RequestUnit) : (m.modReq f).pending = m.pending := rfl

/-! ## modCtl -/

@[simp] theorem State.modCtl_time (f : RunControl → RunControl) : (m.modCtl f).time = m.time := rfl
@[simp] theorem State.modCtl_ep (f : RunControl → RunControl) : (m.modCtl f).ep = m.ep := rfl
@[simp] theorem State.modCtl_notice (f : RunControl → RunControl) : (m.modCtl f).notice = m.notice := rfl
@[simp] theorem State.modCtl_req (f : RunControl → RunControl) : (m.modCtl f).req = m.req := rfl
@[simp] theorem State.modCtl_bx (f : RunControl → RunControl) : (m.modCtl f).bx = m.bx := rfl
@[simp] theorem State.modCtl_pub (f : RunControl → RunControl) : (m.modCtl f).pub = m.pub := rfl
@[simp] theorem State.modCtl_streams (f : RunControl → RunControl) : (m.modCtl f).streams = m.streams := rfl
@[simp] theorem State.modCtl_capture (f : RunControl → RunControl) : (m.modCtl f).capture = m.capture := rfl
@[simp] theorem State.modCtl_walkers (f : RunControl → RunControl) : (m.modCtl f).walkers = m.walkers := rfl
@[simp] theorem State.modCtl_ports (f : RunControl → RunControl) : (m.modCtl f).ports = m.ports := rfl
@[simp] theorem State.modCtl_arb (f : RunControl → RunControl) : (m.modCtl f).arb = m.arb := rfl
@[simp] theorem State.modCtl_mem (f : RunControl → RunControl) : (m.modCtl f).mem = m.mem := rfl
@[simp] theorem State.modCtl_out (f : RunControl → RunControl) : (m.modCtl f).out = m.out := rfl
@[simp] theorem State.modCtl_reports (f : RunControl → RunControl) : (m.modCtl f).reports = m.reports := rfl
@[simp] theorem State.modCtl_pending (f : RunControl → RunControl) : (m.modCtl f).pending = m.pending := rfl

/-! ## modBx -/

@[simp] theorem State.modBx_ctl (f : BankExchange → BankExchange) : (m.modBx f).ctl = m.ctl := rfl
@[simp] theorem State.modBx_time (f : BankExchange → BankExchange) : (m.modBx f).time = m.time := rfl
@[simp] theorem State.modBx_ep (f : BankExchange → BankExchange) : (m.modBx f).ep = m.ep := rfl
@[simp] theorem State.modBx_notice (f : BankExchange → BankExchange) : (m.modBx f).notice = m.notice := rfl
@[simp] theorem State.modBx_req (f : BankExchange → BankExchange) : (m.modBx f).req = m.req := rfl
@[simp] theorem State.modBx_pub (f : BankExchange → BankExchange) : (m.modBx f).pub = m.pub := rfl
@[simp] theorem State.modBx_streams (f : BankExchange → BankExchange) : (m.modBx f).streams = m.streams := rfl
@[simp] theorem State.modBx_capture (f : BankExchange → BankExchange) : (m.modBx f).capture = m.capture := rfl
@[simp] theorem State.modBx_walkers (f : BankExchange → BankExchange) : (m.modBx f).walkers = m.walkers := rfl
@[simp] theorem State.modBx_ports (f : BankExchange → BankExchange) : (m.modBx f).ports = m.ports := rfl
@[simp] theorem State.modBx_arb (f : BankExchange → BankExchange) : (m.modBx f).arb = m.arb := rfl
@[simp] theorem State.modBx_mem (f : BankExchange → BankExchange) : (m.modBx f).mem = m.mem := rfl
@[simp] theorem State.modBx_out (f : BankExchange → BankExchange) : (m.modBx f).out = m.out := rfl
@[simp] theorem State.modBx_reports (f : BankExchange → BankExchange) : (m.modBx f).reports = m.reports := rfl
@[simp] theorem State.modBx_pending (f : BankExchange → BankExchange) : (m.modBx f).pending = m.pending := rfl

/-! ## modArb -/

@[simp] theorem State.modArb_ctl (f : Arbiter → Arbiter) : (m.modArb f).ctl = m.ctl := rfl
@[simp] theorem State.modArb_time (f : Arbiter → Arbiter) : (m.modArb f).time = m.time := rfl
@[simp] theorem State.modArb_ep (f : Arbiter → Arbiter) : (m.modArb f).ep = m.ep := rfl
@[simp] theorem State.modArb_notice (f : Arbiter → Arbiter) : (m.modArb f).notice = m.notice := rfl
@[simp] theorem State.modArb_req (f : Arbiter → Arbiter) : (m.modArb f).req = m.req := rfl
@[simp] theorem State.modArb_bx (f : Arbiter → Arbiter) : (m.modArb f).bx = m.bx := rfl
@[simp] theorem State.modArb_pub (f : Arbiter → Arbiter) : (m.modArb f).pub = m.pub := rfl
@[simp] theorem State.modArb_streams (f : Arbiter → Arbiter) : (m.modArb f).streams = m.streams := rfl
@[simp] theorem State.modArb_capture (f : Arbiter → Arbiter) : (m.modArb f).capture = m.capture := rfl
@[simp] theorem State.modArb_walkers (f : Arbiter → Arbiter) : (m.modArb f).walkers = m.walkers := rfl
@[simp] theorem State.modArb_ports (f : Arbiter → Arbiter) : (m.modArb f).ports = m.ports := rfl
@[simp] theorem State.modArb_mem (f : Arbiter → Arbiter) : (m.modArb f).mem = m.mem := rfl
@[simp] theorem State.modArb_out (f : Arbiter → Arbiter) : (m.modArb f).out = m.out := rfl
@[simp] theorem State.modArb_reports (f : Arbiter → Arbiter) : (m.modArb f).reports = m.reports := rfl
@[simp] theorem State.modArb_pending (f : Arbiter → Arbiter) : (m.modArb f).pending = m.pending := rfl

/-! ## issue -/

@[simp] theorem State.issue_ctl (c : ClientId) (b : Burst) : (m.issue c b).ctl = m.ctl := rfl
@[simp] theorem State.issue_time (c : ClientId) (b : Burst) : (m.issue c b).time = m.time := rfl
@[simp] theorem State.issue_ep (c : ClientId) (b : Burst) : (m.issue c b).ep = m.ep := rfl
@[simp] theorem State.issue_notice (c : ClientId) (b : Burst) : (m.issue c b).notice = m.notice := rfl
@[simp] theorem State.issue_req (c : ClientId) (b : Burst) : (m.issue c b).req = m.req := rfl
@[simp] theorem State.issue_bx (c : ClientId) (b : Burst) : (m.issue c b).bx = m.bx := rfl
@[simp] theorem State.issue_pub (c : ClientId) (b : Burst) : (m.issue c b).pub = m.pub := rfl
@[simp] theorem State.issue_streams (c : ClientId) (b : Burst) : (m.issue c b).streams = m.streams := rfl
@[simp] theorem State.issue_capture (c : ClientId) (b : Burst) : (m.issue c b).capture = m.capture := rfl
@[simp] theorem State.issue_walkers (c : ClientId) (b : Burst) : (m.issue c b).walkers = m.walkers := rfl
@[simp] theorem State.issue_ports (c : ClientId) (b : Burst) : (m.issue c b).ports = m.ports := rfl
@[simp] theorem State.issue_mem (c : ClientId) (b : Burst) : (m.issue c b).mem = m.mem := rfl
@[simp] theorem State.issue_out (c : ClientId) (b : Burst) : (m.issue c b).out = m.out := rfl
@[simp] theorem State.issue_reports (c : ClientId) (b : Burst) : (m.issue c b).reports = m.reports := rfl
@[simp] theorem State.issue_pending (c : ClientId) (b : Burst) : (m.issue c b).pending = m.pending := rfl

/-! ## issueAll -/

@[simp] theorem State.issueAll_ctl (c : ClientId) (bs : List Burst) : (m.issueAll c bs).ctl = m.ctl := rfl
@[simp] theorem State.issueAll_time (c : ClientId) (bs : List Burst) : (m.issueAll c bs).time = m.time := rfl
@[simp] theorem State.issueAll_ep (c : ClientId) (bs : List Burst) : (m.issueAll c bs).ep = m.ep := rfl
@[simp] theorem State.issueAll_notice (c : ClientId) (bs : List Burst) : (m.issueAll c bs).notice = m.notice := rfl
@[simp] theorem State.issueAll_req (c : ClientId) (bs : List Burst) : (m.issueAll c bs).req = m.req := rfl
@[simp] theorem State.issueAll_bx (c : ClientId) (bs : List Burst) : (m.issueAll c bs).bx = m.bx := rfl
@[simp] theorem State.issueAll_pub (c : ClientId) (bs : List Burst) : (m.issueAll c bs).pub = m.pub := rfl
@[simp] theorem State.issueAll_streams (c : ClientId) (bs : List Burst) : (m.issueAll c bs).streams = m.streams := rfl
@[simp] theorem State.issueAll_capture (c : ClientId) (bs : List Burst) : (m.issueAll c bs).capture = m.capture := rfl
@[simp] theorem State.issueAll_walkers (c : ClientId) (bs : List Burst) : (m.issueAll c bs).walkers = m.walkers := rfl
@[simp] theorem State.issueAll_ports (c : ClientId) (bs : List Burst) : (m.issueAll c bs).ports = m.ports := rfl
@[simp] theorem State.issueAll_mem (c : ClientId) (bs : List Burst) : (m.issueAll c bs).mem = m.mem := rfl
@[simp] theorem State.issueAll_out (c : ClientId) (bs : List Burst) : (m.issueAll c bs).out = m.out := rfl
@[simp] theorem State.issueAll_reports (c : ClientId) (bs : List Burst) : (m.issueAll c bs).reports = m.reports := rfl
@[simp] theorem State.issueAll_pending (c : ClientId) (bs : List Burst) : (m.issueAll c bs).pending = m.pending := rfl

/-! ## complete -/

@[simp] theorem State.complete_ctl (c : ClientId) : (m.complete c).ctl = m.ctl := rfl
@[simp] theorem State.complete_time (c : ClientId) : (m.complete c).time = m.time := rfl
@[simp] theorem State.complete_ep (c : ClientId) : (m.complete c).ep = m.ep := rfl
@[simp] theorem State.complete_notice (c : ClientId) : (m.complete c).notice = m.notice := rfl
@[simp] theorem State.complete_req (c : ClientId) : (m.complete c).req = m.req := rfl
@[simp] theorem State.complete_bx (c : ClientId) : (m.complete c).bx = m.bx := rfl
@[simp] theorem State.complete_pub (c : ClientId) : (m.complete c).pub = m.pub := rfl
@[simp] theorem State.complete_streams (c : ClientId) : (m.complete c).streams = m.streams := rfl
@[simp] theorem State.complete_capture (c : ClientId) : (m.complete c).capture = m.capture := rfl
@[simp] theorem State.complete_walkers (c : ClientId) : (m.complete c).walkers = m.walkers := rfl
@[simp] theorem State.complete_ports (c : ClientId) : (m.complete c).ports = m.ports := rfl
@[simp] theorem State.complete_mem (c : ClientId) : (m.complete c).mem = m.mem := rfl
@[simp] theorem State.complete_out (c : ClientId) : (m.complete c).out = m.out := rfl
@[simp] theorem State.complete_reports (c : ClientId) : (m.complete c).reports = m.reports := rfl
@[simp] theorem State.complete_pending (c : ClientId) : (m.complete c).pending = m.pending := rfl

/-! ## reach -/

@[simp] theorem State.reach_ctl (due : Dword) : (m.reach due).ctl = m.ctl := rfl
@[simp] theorem State.reach_ep (due : Dword) : (m.reach due).ep = m.ep := rfl
@[simp] theorem State.reach_notice (due : Dword) : (m.reach due).notice = m.notice := rfl
@[simp] theorem State.reach_req (due : Dword) : (m.reach due).req = m.req := rfl
@[simp] theorem State.reach_bx (due : Dword) : (m.reach due).bx = m.bx := rfl
@[simp] theorem State.reach_pub (due : Dword) : (m.reach due).pub = m.pub := rfl
@[simp] theorem State.reach_streams (due : Dword) : (m.reach due).streams = m.streams := rfl
@[simp] theorem State.reach_capture (due : Dword) : (m.reach due).capture = m.capture := rfl
@[simp] theorem State.reach_walkers (due : Dword) : (m.reach due).walkers = m.walkers := rfl
@[simp] theorem State.reach_ports (due : Dword) : (m.reach due).ports = m.ports := rfl
@[simp] theorem State.reach_arb (due : Dword) : (m.reach due).arb = m.arb := rfl
@[simp] theorem State.reach_mem (due : Dword) : (m.reach due).mem = m.mem := rfl
@[simp] theorem State.reach_out (due : Dword) : (m.reach due).out = m.out := rfl
@[simp] theorem State.reach_reports (due : Dword) : (m.reach due).reports = m.reports := rfl
@[simp] theorem State.reach_pending (due : Dword) : (m.reach due).pending = m.pending := rfl

/-! ## tick -/

@[simp] theorem State.tick_ctl : (m.tick ).ctl = m.ctl := rfl
@[simp] theorem State.tick_ep : (m.tick ).ep = m.ep := rfl
@[simp] theorem State.tick_notice : (m.tick ).notice = m.notice := rfl
@[simp] theorem State.tick_req : (m.tick ).req = m.req := rfl
@[simp] theorem State.tick_bx : (m.tick ).bx = m.bx := rfl
@[simp] theorem State.tick_pub : (m.tick ).pub = m.pub := rfl
@[simp] theorem State.tick_streams : (m.tick ).streams = m.streams := rfl
@[simp] theorem State.tick_capture : (m.tick ).capture = m.capture := rfl
@[simp] theorem State.tick_walkers : (m.tick ).walkers = m.walkers := rfl
@[simp] theorem State.tick_ports : (m.tick ).ports = m.ports := rfl
@[simp] theorem State.tick_arb : (m.tick ).arb = m.arb := rfl
@[simp] theorem State.tick_mem : (m.tick ).mem = m.mem := rfl
@[simp] theorem State.tick_out : (m.tick ).out = m.out := rfl
@[simp] theorem State.tick_reports : (m.tick ).reports = m.reports := rfl
@[simp] theorem State.tick_pending : (m.tick ).pending = m.pending := rfl

/-! ## modStreamCounters -/

@[simp] theorem State.modStreamCounters_ctl (s : StreamId) (f : StreamCounters → StreamCounters) : (m.modStreamCounters s f).ctl = m.ctl := rfl
@[simp] theorem State.modStreamCounters_time (s : StreamId) (f : StreamCounters → StreamCounters) : (m.modStreamCounters s f).time = m.time := rfl
@[simp] theorem State.modStreamCounters_ep (s : StreamId) (f : StreamCounters → StreamCounters) : (m.modStreamCounters s f).ep = m.ep := rfl
@[simp] theorem State.modStreamCounters_notice (s : StreamId) (f : StreamCounters → StreamCounters) : (m.modStreamCounters s f).notice = m.notice := rfl
@[simp] theorem State.modStreamCounters_req (s : StreamId) (f : StreamCounters → StreamCounters) : (m.modStreamCounters s f).req = m.req := rfl
@[simp] theorem State.modStreamCounters_bx (s : StreamId) (f : StreamCounters → StreamCounters) : (m.modStreamCounters s f).bx = m.bx := rfl
@[simp] theorem State.modStreamCounters_pub (s : StreamId) (f : StreamCounters → StreamCounters) : (m.modStreamCounters s f).pub = m.pub := rfl
@[simp] theorem State.modStreamCounters_capture (s : StreamId) (f : StreamCounters → StreamCounters) : (m.modStreamCounters s f).capture = m.capture := rfl
@[simp] theorem State.modStreamCounters_walkers (s : StreamId) (f : StreamCounters → StreamCounters) : (m.modStreamCounters s f).walkers = m.walkers := rfl
@[simp] theorem State.modStreamCounters_ports (s : StreamId) (f : StreamCounters → StreamCounters) : (m.modStreamCounters s f).ports = m.ports := rfl
@[simp] theorem State.modStreamCounters_arb (s : StreamId) (f : StreamCounters → StreamCounters) : (m.modStreamCounters s f).arb = m.arb := rfl
@[simp] theorem State.modStreamCounters_mem (s : StreamId) (f : StreamCounters → StreamCounters) : (m.modStreamCounters s f).mem = m.mem := rfl
@[simp] theorem State.modStreamCounters_out (s : StreamId) (f : StreamCounters → StreamCounters) : (m.modStreamCounters s f).out = m.out := rfl
@[simp] theorem State.modStreamCounters_reports (s : StreamId) (f : StreamCounters → StreamCounters) : (m.modStreamCounters s f).reports = m.reports := rfl
@[simp] theorem State.modStreamCounters_pending (s : StreamId) (f : StreamCounters → StreamCounters) : (m.modStreamCounters s f).pending = m.pending := rfl

/-! ## modPortCounters -/

@[simp] theorem State.modPortCounters_ctl (p : PortId) (f : PortCounters → PortCounters) : (m.modPortCounters p f).ctl = m.ctl := rfl
@[simp] theorem State.modPortCounters_time (p : PortId) (f : PortCounters → PortCounters) : (m.modPortCounters p f).time = m.time := rfl
@[simp] theorem State.modPortCounters_ep (p : PortId) (f : PortCounters → PortCounters) : (m.modPortCounters p f).ep = m.ep := rfl
@[simp] theorem State.modPortCounters_notice (p : PortId) (f : PortCounters → PortCounters) : (m.modPortCounters p f).notice = m.notice := rfl
@[simp] theorem State.modPortCounters_req (p : PortId) (f : PortCounters → PortCounters) : (m.modPortCounters p f).req = m.req := rfl
@[simp] theorem State.modPortCounters_bx (p : PortId) (f : PortCounters → PortCounters) : (m.modPortCounters p f).bx = m.bx := rfl
@[simp] theorem State.modPortCounters_pub (p : PortId) (f : PortCounters → PortCounters) : (m.modPortCounters p f).pub = m.pub := rfl
@[simp] theorem State.modPortCounters_streams (p : PortId) (f : PortCounters → PortCounters) : (m.modPortCounters p f).streams = m.streams := rfl
@[simp] theorem State.modPortCounters_capture (p : PortId) (f : PortCounters → PortCounters) : (m.modPortCounters p f).capture = m.capture := rfl
@[simp] theorem State.modPortCounters_walkers (p : PortId) (f : PortCounters → PortCounters) : (m.modPortCounters p f).walkers = m.walkers := rfl
@[simp] theorem State.modPortCounters_arb (p : PortId) (f : PortCounters → PortCounters) : (m.modPortCounters p f).arb = m.arb := rfl
@[simp] theorem State.modPortCounters_mem (p : PortId) (f : PortCounters → PortCounters) : (m.modPortCounters p f).mem = m.mem := rfl
@[simp] theorem State.modPortCounters_out (p : PortId) (f : PortCounters → PortCounters) : (m.modPortCounters p f).out = m.out := rfl
@[simp] theorem State.modPortCounters_reports (p : PortId) (f : PortCounters → PortCounters) : (m.modPortCounters p f).reports = m.reports := rfl
@[simp] theorem State.modPortCounters_pending (p : PortId) (f : PortCounters → PortCounters) : (m.modPortCounters p f).pending = m.pending := rfl

/-! ## What an updater puts in its own field -/

@[simp] theorem State.modReq_req (f : RequestUnit → RequestUnit) : (m.modReq f).req = f m.req := rfl
@[simp] theorem State.modCtl_ctl (f : RunControl → RunControl) : (m.modCtl f).ctl = f m.ctl := rfl
@[simp] theorem State.modBx_bx (f : BankExchange → BankExchange) : (m.modBx f).bx = f m.bx := rfl
@[simp] theorem State.modArb_arb (f : Arbiter → Arbiter) : (m.modArb f).arb = f m.arb := rfl
@[simp] theorem State.issue_arb (c : ClientId) (b : Burst) : (m.issue c b).arb = m.arb.issueAll c [b] := rfl
@[simp] theorem State.issueAll_arb (c : ClientId) (bs : List Burst) : (m.issueAll c bs).arb = m.arb.issueAll c bs := rfl
@[simp] theorem State.complete_arb (c : ClientId) : (m.complete c).arb = m.arb.complete c := rfl
@[simp] theorem State.reach_latch (due : Dword) : (m.reach due).time.latch = m.time.latch := rfl
@[simp] theorem State.tick_count : m.tick.time.count = m.time.count + 1 := rfl
@[simp] theorem State.tick_latch : m.tick.time.latch = m.time.latch := rfl

/-! ## Reading one part after an update -/

theorem State.stream_modStream (s t : StreamId) (f : Stream → Stream) :
    (m.modStream s f).stream t = if s = t then f (m.stream s) else m.stream t := by
  simp only [State.stream, State.modStream, Fin.getElem_fin, Vector.getElem_set, Fin.ext_iff]

@[simp] theorem State.stream_modStream_self (s : StreamId) (f : Stream → Stream) :
    (m.modStream s f).stream s = f (m.stream s) := by simp [State.stream_modStream]

@[simp] theorem State.stream_modStreamCounters_self (s : StreamId) (f : StreamCounters → StreamCounters) :
    (m.modStreamCounters s f).stream s = { m.stream s with counters := f (m.stream s).counters } := by
  simp [State.modStreamCounters]

theorem State.stream_modStream_of_ne {s t : StreamId} (h : s ≠ t) (f : Stream → Stream) :
    (m.modStream s f).stream t = m.stream t := by simp [State.stream_modStream, h]

theorem State.cport_modCapture (s t : StreamId) (f : CapturePort → CapturePort) :
    (m.modCapture s f).cport t = if s = t then f (m.cport s) else m.cport t := by
  simp only [State.cport, State.modCapture, Fin.getElem_fin, Vector.getElem_set, Fin.ext_iff]

@[simp] theorem State.cport_modCapture_self (s : StreamId) (f : CapturePort → CapturePort) :
    (m.modCapture s f).cport s = f (m.cport s) := by simp [State.cport_modCapture]

theorem State.port_modPort (p q : PortId) (f : Port → Port) :
    (m.modPort p f).port q = if p = q then f (m.port p) else m.port q := by
  simp only [State.port, State.modPort, Fin.getElem_fin, Vector.getElem_set, Fin.ext_iff]

@[simp] theorem State.port_modPort_self (p : PortId) (f : Port → Port) :
    (m.modPort p f).port p = f (m.port p) := by simp [State.port_modPort]

theorem State.walker_modWalker (p q : PortId) (f : Walker → Walker) :
    (m.modWalker p f).walker q = if p = q then f (m.walker p) else m.walker q := by
  simp only [State.walker, State.modWalker, Fin.getElem_fin, Vector.getElem_set, Fin.ext_iff]

@[simp] theorem State.walker_modWalker_self (p : PortId) (f : Walker → Walker) :
    (m.modWalker p f).walker p = f (m.walker p) := by simp [State.walker_modWalker]

theorem State.publish_modPublish (s t : StreamId) (f : PublishState → PublishState) :
    (m.modPublish s f).publish t = if s = t then f (m.publish s) else m.publish t := by
  simp only [State.publish, State.modPublish, Fin.getElem_fin, Vector.getElem_set, Fin.ext_iff]

@[simp] theorem State.publish_modPublish_self (s : StreamId) (f : PublishState → PublishState) :
    (m.modPublish s f).publish s = f (m.publish s) := by simp [State.publish_modPublish]

theorem State.image_modImage (s t : StreamId) (i j : BankIx) (f : CatalogImage → CatalogImage) :
    (m.modImage s i f).image t j = if s = t ∧ i = j then f (m.image s i) else m.image t j := by
  simp only [State.image, State.modImage, Fin.getElem_fin, Vector.getElem_set, Fin.ext_iff]
  split <;> rename_i h
  · have : s = t := Fin.ext h
    subst this
    simp [Vector.getElem_set]
  · simp [h]

theorem BankExchange.bank_modBank (x : BankExchange) (s t : StreamId) (i j : BankIx) (f : Bank → Bank) :
    (x.modBank s i f).bank t j = if s = t ∧ i = j then f (x.bank s i) else x.bank t j := by
  simp only [BankExchange.bank, BankExchange.modBank, Fin.getElem_fin, Vector.getElem_set, Fin.ext_iff]
  split <;> rename_i h
  · have : s = t := Fin.ext h
    subst this
    simp [Vector.getElem_set]
  · simp [h]

@[simp] theorem BankExchange.bank_modBank_self (x : BankExchange) (s : StreamId) (i : BankIx) (f : Bank → Bank) :
    (x.modBank s i f).bank s i = f (x.bank s i) := by simp [BankExchange.bank_modBank]

@[simp] theorem BankExchange.modBank_claims (x : BankExchange) (s : StreamId) (i : BankIx) (f : Bank → Bank) :
    (x.modBank s i f).claims = x.claims := rfl

@[simp] theorem BankExchange.modBank_geometry (x : BankExchange) (s : StreamId) (i : BankIx) (f : Bank → Bank) :
    (x.modBank s i f).geometry = x.geometry := rfl

/-! ## Reading another part after an update -/

@[simp] theorem State.cport_modStream (s : StreamId) (f : Stream → Stream) (t : StreamId) : (m.modStream s f).cport t = m.cport t := rfl
@[simp] theorem State.port_modStream (s : StreamId) (f : Stream → Stream) (q : PortId) : (m.modStream s f).port q = m.port q := rfl
@[simp] theorem State.walker_modStream (s : StreamId) (f : Stream → Stream) (q : PortId) : (m.modStream s f).walker q = m.walker q := rfl
@[simp] theorem State.publish_modStream (s : StreamId) (f : Stream → Stream) (t : StreamId) : (m.modStream s f).publish t = m.publish t := rfl
@[simp] theorem State.image_modStream (s : StreamId) (f : Stream → Stream) (t : StreamId) (j : BankIx) : (m.modStream s f).image t j = m.image t j := rfl
@[simp] theorem State.bank_modStream (s : StreamId) (f : Stream → Stream) (t : StreamId) (j : BankIx) : (m.modStream s f).bank t j = m.bank t j := rfl
@[simp] theorem State.filling_modStream (s : StreamId) (f : Stream → Stream) (t : StreamId) : (m.modStream s f).filling t = m.filling t := rfl
@[simp] theorem State.client_modStream (s : StreamId) (f : Stream → Stream) (d : ClientId) : (m.modStream s f).client d = m.client d := rfl
@[simp] theorem State.now_modStream (s : StreamId) (f : Stream → Stream) : (m.modStream s f).now = m.now := rfl
@[simp] theorem State.dir_modStream (s : StreamId) (f : Stream → Stream) : (m.modStream s f).dir = m.dir := rfl

@[simp] theorem State.stream_modCapture (s : StreamId) (f : CapturePort → CapturePort) (t : StreamId) : (m.modCapture s f).stream t = m.stream t := rfl
@[simp] theorem State.port_modCapture (s : StreamId) (f : CapturePort → CapturePort) (q : PortId) : (m.modCapture s f).port q = m.port q := rfl
@[simp] theorem State.walker_modCapture (s : StreamId) (f : CapturePort → CapturePort) (q : PortId) : (m.modCapture s f).walker q = m.walker q := rfl
@[simp] theorem State.publish_modCapture (s : StreamId) (f : CapturePort → CapturePort) (t : StreamId) : (m.modCapture s f).publish t = m.publish t := rfl
@[simp] theorem State.image_modCapture (s : StreamId) (f : CapturePort → CapturePort) (t : StreamId) (j : BankIx) : (m.modCapture s f).image t j = m.image t j := rfl
@[simp] theorem State.bank_modCapture (s : StreamId) (f : CapturePort → CapturePort) (t : StreamId) (j : BankIx) : (m.modCapture s f).bank t j = m.bank t j := rfl
@[simp] theorem State.filling_modCapture (s : StreamId) (f : CapturePort → CapturePort) (t : StreamId) : (m.modCapture s f).filling t = m.filling t := rfl
@[simp] theorem State.isOff_modCapture (s : StreamId) (f : CapturePort → CapturePort) (t : StreamId) : (m.modCapture s f).isOff t = m.isOff t := rfl
@[simp] theorem State.client_modCapture (s : StreamId) (f : CapturePort → CapturePort) (d : ClientId) : (m.modCapture s f).client d = m.client d := rfl
@[simp] theorem State.now_modCapture (s : StreamId) (f : CapturePort → CapturePort) : (m.modCapture s f).now = m.now := rfl
@[simp] theorem State.dir_modCapture (s : StreamId) (f : CapturePort → CapturePort) : (m.modCapture s f).dir = m.dir := rfl

@[simp] theorem State.stream_modPort (p : PortId) (f : Port → Port) (t : StreamId) : (m.modPort p f).stream t = m.stream t := rfl
@[simp] theorem State.cport_modPort (p : PortId) (f : Port → Port) (t : StreamId) : (m.modPort p f).cport t = m.cport t := rfl
@[simp] theorem State.walker_modPort (p : PortId) (f : Port → Port) (q : PortId) : (m.modPort p f).walker q = m.walker q := rfl
@[simp] theorem State.publish_modPort (p : PortId) (f : Port → Port) (t : StreamId) : (m.modPort p f).publish t = m.publish t := rfl
@[simp] theorem State.image_modPort (p : PortId) (f : Port → Port) (t : StreamId) (j : BankIx) : (m.modPort p f).image t j = m.image t j := rfl
@[simp] theorem State.bank_modPort (p : PortId) (f : Port → Port) (t : StreamId) (j : BankIx) : (m.modPort p f).bank t j = m.bank t j := rfl
@[simp] theorem State.filling_modPort (p : PortId) (f : Port → Port) (t : StreamId) : (m.modPort p f).filling t = m.filling t := rfl
@[simp] theorem State.isOff_modPort (p : PortId) (f : Port → Port) (t : StreamId) : (m.modPort p f).isOff t = m.isOff t := rfl
@[simp] theorem State.client_modPort (p : PortId) (f : Port → Port) (d : ClientId) : (m.modPort p f).client d = m.client d := rfl
@[simp] theorem State.now_modPort (p : PortId) (f : Port → Port) : (m.modPort p f).now = m.now := rfl
@[simp] theorem State.dir_modPort (p : PortId) (f : Port → Port) : (m.modPort p f).dir = m.dir := rfl

@[simp] theorem State.stream_modWalker (p : PortId) (f : Walker → Walker) (t : StreamId) : (m.modWalker p f).stream t = m.stream t := rfl
@[simp] theorem State.cport_modWalker (p : PortId) (f : Walker → Walker) (t : StreamId) : (m.modWalker p f).cport t = m.cport t := rfl
@[simp] theorem State.port_modWalker (p : PortId) (f : Walker → Walker) (q : PortId) : (m.modWalker p f).port q = m.port q := rfl
@[simp] theorem State.publish_modWalker (p : PortId) (f : Walker → Walker) (t : StreamId) : (m.modWalker p f).publish t = m.publish t := rfl
@[simp] theorem State.image_modWalker (p : PortId) (f : Walker → Walker) (t : StreamId) (j : BankIx) : (m.modWalker p f).image t j = m.image t j := rfl
@[simp] theorem State.bank_modWalker (p : PortId) (f : Walker → Walker) (t : StreamId) (j : BankIx) : (m.modWalker p f).bank t j = m.bank t j := rfl
@[simp] theorem State.filling_modWalker (p : PortId) (f : Walker → Walker) (t : StreamId) : (m.modWalker p f).filling t = m.filling t := rfl
@[simp] theorem State.isOff_modWalker (p : PortId) (f : Walker → Walker) (t : StreamId) : (m.modWalker p f).isOff t = m.isOff t := rfl
@[simp] theorem State.client_modWalker (p : PortId) (f : Walker → Walker) (d : ClientId) : (m.modWalker p f).client d = m.client d := rfl
@[simp] theorem State.now_modWalker (p : PortId) (f : Walker → Walker) : (m.modWalker p f).now = m.now := rfl
@[simp] theorem State.dir_modWalker (p : PortId) (f : Walker → Walker) : (m.modWalker p f).dir = m.dir := rfl

@[simp] theorem State.stream_modPublish (s : StreamId) (f : PublishState → PublishState) (t : StreamId) : (m.modPublish s f).stream t = m.stream t := rfl
@[simp] theorem State.cport_modPublish (s : StreamId) (f : PublishState → PublishState) (t : StreamId) : (m.modPublish s f).cport t = m.cport t := rfl
@[simp] theorem State.port_modPublish (s : StreamId) (f : PublishState → PublishState) (q : PortId) : (m.modPublish s f).port q = m.port q := rfl
@[simp] theorem State.walker_modPublish (s : StreamId) (f : PublishState → PublishState) (q : PortId) : (m.modPublish s f).walker q = m.walker q := rfl
@[simp] theorem State.bank_modPublish (s : StreamId) (f : PublishState → PublishState) (t : StreamId) (j : BankIx) : (m.modPublish s f).bank t j = m.bank t j := rfl
@[simp] theorem State.filling_modPublish (s : StreamId) (f : PublishState → PublishState) (t : StreamId) : (m.modPublish s f).filling t = m.filling t := rfl
@[simp] theorem State.isOff_modPublish (s : StreamId) (f : PublishState → PublishState) (t : StreamId) : (m.modPublish s f).isOff t = m.isOff t := rfl
@[simp] theorem State.client_modPublish (s : StreamId) (f : PublishState → PublishState) (d : ClientId) : (m.modPublish s f).client d = m.client d := rfl
@[simp] theorem State.now_modPublish (s : StreamId) (f : PublishState → PublishState) : (m.modPublish s f).now = m.now := rfl
@[simp] theorem State.dir_modPublish (s : StreamId) (f : PublishState → PublishState) : (m.modPublish s f).dir = m.dir := rfl

@[simp] theorem State.stream_modImage (s : StreamId) (i : BankIx) (f : CatalogImage → CatalogImage) (t : StreamId) : (m.modImage s i f).stream t = m.stream t := rfl
@[simp] theorem State.cport_modImage (s : StreamId) (i : BankIx) (f : CatalogImage → CatalogImage) (t : StreamId) : (m.modImage s i f).cport t = m.cport t := rfl
@[simp] theorem State.port_modImage (s : StreamId) (i : BankIx) (f : CatalogImage → CatalogImage) (q : PortId) : (m.modImage s i f).port q = m.port q := rfl
@[simp] theorem State.walker_modImage (s : StreamId) (i : BankIx) (f : CatalogImage → CatalogImage) (q : PortId) : (m.modImage s i f).walker q = m.walker q := rfl
@[simp] theorem State.bank_modImage (s : StreamId) (i : BankIx) (f : CatalogImage → CatalogImage) (t : StreamId) (j : BankIx) : (m.modImage s i f).bank t j = m.bank t j := rfl
@[simp] theorem State.filling_modImage (s : StreamId) (i : BankIx) (f : CatalogImage → CatalogImage) (t : StreamId) : (m.modImage s i f).filling t = m.filling t := rfl
@[simp] theorem State.isOff_modImage (s : StreamId) (i : BankIx) (f : CatalogImage → CatalogImage) (t : StreamId) : (m.modImage s i f).isOff t = m.isOff t := rfl
@[simp] theorem State.client_modImage (s : StreamId) (i : BankIx) (f : CatalogImage → CatalogImage) (d : ClientId) : (m.modImage s i f).client d = m.client d := rfl
@[simp] theorem State.now_modImage (s : StreamId) (i : BankIx) (f : CatalogImage → CatalogImage) : (m.modImage s i f).now = m.now := rfl
@[simp] theorem State.dir_modImage (s : StreamId) (i : BankIx) (f : CatalogImage → CatalogImage) : (m.modImage s i f).dir = m.dir := rfl

@[simp] theorem State.stream_modReq (f : RequestUnit → RequestUnit) (t : StreamId) : (m.modReq f).stream t = m.stream t := rfl
@[simp] theorem State.cport_modReq (f : RequestUnit → RequestUnit) (t : StreamId) : (m.modReq f).cport t = m.cport t := rfl
@[simp] theorem State.port_modReq (f : RequestUnit → RequestUnit) (q : PortId) : (m.modReq f).port q = m.port q := rfl
@[simp] theorem State.walker_modReq (f : RequestUnit → RequestUnit) (q : PortId) : (m.modReq f).walker q = m.walker q := rfl
@[simp] theorem State.publish_modReq (f : RequestUnit → RequestUnit) (t : StreamId) : (m.modReq f).publish t = m.publish t := rfl
@[simp] theorem State.image_modReq (f : RequestUnit → RequestUnit) (t : StreamId) (j : BankIx) : (m.modReq f).image t j = m.image t j := rfl
@[simp] theorem State.bank_modReq (f : RequestUnit → RequestUnit) (t : StreamId) (j : BankIx) : (m.modReq f).bank t j = m.bank t j := rfl
@[simp] theorem State.filling_modReq (f : RequestUnit → RequestUnit) (t : StreamId) : (m.modReq f).filling t = m.filling t := rfl
@[simp] theorem State.isOff_modReq (f : RequestUnit → RequestUnit) (t : StreamId) : (m.modReq f).isOff t = m.isOff t := rfl
@[simp] theorem State.client_modReq (f : RequestUnit → RequestUnit) (d : ClientId) : (m.modReq f).client d = m.client d := rfl
@[simp] theorem State.now_modReq (f : RequestUnit → RequestUnit) : (m.modReq f).now = m.now := rfl
@[simp] theorem State.dir_modReq (f : RequestUnit → RequestUnit) : (m.modReq f).dir = m.dir := rfl

@[simp] theorem State.stream_modCtl (f : RunControl → RunControl) (t : StreamId) : (m.modCtl f).stream t = m.stream t := rfl
@[simp] theorem State.cport_modCtl (f : RunControl → RunControl) (t : StreamId) : (m.modCtl f).cport t = m.cport t := rfl
@[simp] theorem State.port_modCtl (f : RunControl → RunControl) (q : PortId) : (m.modCtl f).port q = m.port q := rfl
@[simp] theorem State.walker_modCtl (f : RunControl → RunControl) (q : PortId) : (m.modCtl f).walker q = m.walker q := rfl
@[simp] theorem State.publish_modCtl (f : RunControl → RunControl) (t : StreamId) : (m.modCtl f).publish t = m.publish t := rfl
@[simp] theorem State.image_modCtl (f : RunControl → RunControl) (t : StreamId) (j : BankIx) : (m.modCtl f).image t j = m.image t j := rfl
@[simp] theorem State.bank_modCtl (f : RunControl → RunControl) (t : StreamId) (j : BankIx) : (m.modCtl f).bank t j = m.bank t j := rfl
@[simp] theorem State.filling_modCtl (f : RunControl → RunControl) (t : StreamId) : (m.modCtl f).filling t = m.filling t := rfl
@[simp] theorem State.isOff_modCtl (f : RunControl → RunControl) (t : StreamId) : (m.modCtl f).isOff t = m.isOff t := rfl
@[simp] theorem State.client_modCtl (f : RunControl → RunControl) (d : ClientId) : (m.modCtl f).client d = m.client d := rfl
@[simp] theorem State.now_modCtl (f : RunControl → RunControl) : (m.modCtl f).now = m.now := rfl

@[simp] theorem State.stream_modBx (f : BankExchange → BankExchange) (t : StreamId) : (m.modBx f).stream t = m.stream t := rfl
@[simp] theorem State.cport_modBx (f : BankExchange → BankExchange) (t : StreamId) : (m.modBx f).cport t = m.cport t := rfl
@[simp] theorem State.port_modBx (f : BankExchange → BankExchange) (q : PortId) : (m.modBx f).port q = m.port q := rfl
@[simp] theorem State.walker_modBx (f : BankExchange → BankExchange) (q : PortId) : (m.modBx f).walker q = m.walker q := rfl
@[simp] theorem State.publish_modBx (f : BankExchange → BankExchange) (t : StreamId) : (m.modBx f).publish t = m.publish t := rfl
@[simp] theorem State.image_modBx (f : BankExchange → BankExchange) (t : StreamId) (j : BankIx) : (m.modBx f).image t j = m.image t j := rfl
@[simp] theorem State.isOff_modBx (f : BankExchange → BankExchange) (t : StreamId) : (m.modBx f).isOff t = m.isOff t := rfl
@[simp] theorem State.client_modBx (f : BankExchange → BankExchange) (d : ClientId) : (m.modBx f).client d = m.client d := rfl
@[simp] theorem State.now_modBx (f : BankExchange → BankExchange) : (m.modBx f).now = m.now := rfl
@[simp] theorem State.dir_modBx (f : BankExchange → BankExchange) : (m.modBx f).dir = m.dir := rfl

@[simp] theorem State.stream_modArb (f : Arbiter → Arbiter) (t : StreamId) : (m.modArb f).stream t = m.stream t := rfl
@[simp] theorem State.cport_modArb (f : Arbiter → Arbiter) (t : StreamId) : (m.modArb f).cport t = m.cport t := rfl
@[simp] theorem State.port_modArb (f : Arbiter → Arbiter) (q : PortId) : (m.modArb f).port q = m.port q := rfl
@[simp] theorem State.walker_modArb (f : Arbiter → Arbiter) (q : PortId) : (m.modArb f).walker q = m.walker q := rfl
@[simp] theorem State.publish_modArb (f : Arbiter → Arbiter) (t : StreamId) : (m.modArb f).publish t = m.publish t := rfl
@[simp] theorem State.image_modArb (f : Arbiter → Arbiter) (t : StreamId) (j : BankIx) : (m.modArb f).image t j = m.image t j := rfl
@[simp] theorem State.bank_modArb (f : Arbiter → Arbiter) (t : StreamId) (j : BankIx) : (m.modArb f).bank t j = m.bank t j := rfl
@[simp] theorem State.filling_modArb (f : Arbiter → Arbiter) (t : StreamId) : (m.modArb f).filling t = m.filling t := rfl
@[simp] theorem State.isOff_modArb (f : Arbiter → Arbiter) (t : StreamId) : (m.modArb f).isOff t = m.isOff t := rfl
@[simp] theorem State.now_modArb (f : Arbiter → Arbiter) : (m.modArb f).now = m.now := rfl
@[simp] theorem State.dir_modArb (f : Arbiter → Arbiter) : (m.modArb f).dir = m.dir := rfl

@[simp] theorem State.stream_issue (c : ClientId) (b : Burst) (t : StreamId) : (m.issue c b).stream t = m.stream t := rfl
@[simp] theorem State.cport_issue (c : ClientId) (b : Burst) (t : StreamId) : (m.issue c b).cport t = m.cport t := rfl
@[simp] theorem State.port_issue (c : ClientId) (b : Burst) (q : PortId) : (m.issue c b).port q = m.port q := rfl
@[simp] theorem State.walker_issue (c : ClientId) (b : Burst) (q : PortId) : (m.issue c b).walker q = m.walker q := rfl
@[simp] theorem State.publish_issue (c : ClientId) (b : Burst) (t : StreamId) : (m.issue c b).publish t = m.publish t := rfl
@[simp] theorem State.image_issue (c : ClientId) (b : Burst) (t : StreamId) (j : BankIx) : (m.issue c b).image t j = m.image t j := rfl
@[simp] theorem State.bank_issue (c : ClientId) (b : Burst) (t : StreamId) (j : BankIx) : (m.issue c b).bank t j = m.bank t j := rfl
@[simp] theorem State.filling_issue (c : ClientId) (b : Burst) (t : StreamId) : (m.issue c b).filling t = m.filling t := rfl
@[simp] theorem State.isOff_issue (c : ClientId) (b : Burst) (t : StreamId) : (m.issue c b).isOff t = m.isOff t := rfl
@[simp] theorem State.now_issue (c : ClientId) (b : Burst) : (m.issue c b).now = m.now := rfl
@[simp] theorem State.dir_issue (c : ClientId) (b : Burst) : (m.issue c b).dir = m.dir := rfl

@[simp] theorem State.stream_issueAll (c : ClientId) (bs : List Burst) (t : StreamId) : (m.issueAll c bs).stream t = m.stream t := rfl
@[simp] theorem State.cport_issueAll (c : ClientId) (bs : List Burst) (t : StreamId) : (m.issueAll c bs).cport t = m.cport t := rfl
@[simp] theorem State.port_issueAll (c : ClientId) (bs : List Burst) (q : PortId) : (m.issueAll c bs).port q = m.port q := rfl
@[simp] theorem State.walker_issueAll (c : ClientId) (bs : List Burst) (q : PortId) : (m.issueAll c bs).walker q = m.walker q := rfl
@[simp] theorem State.publish_issueAll (c : ClientId) (bs : List Burst) (t : StreamId) : (m.issueAll c bs).publish t = m.publish t := rfl
@[simp] theorem State.image_issueAll (c : ClientId) (bs : List Burst) (t : StreamId) (j : BankIx) : (m.issueAll c bs).image t j = m.image t j := rfl
@[simp] theorem State.bank_issueAll (c : ClientId) (bs : List Burst) (t : StreamId) (j : BankIx) : (m.issueAll c bs).bank t j = m.bank t j := rfl
@[simp] theorem State.filling_issueAll (c : ClientId) (bs : List Burst) (t : StreamId) : (m.issueAll c bs).filling t = m.filling t := rfl
@[simp] theorem State.isOff_issueAll (c : ClientId) (bs : List Burst) (t : StreamId) : (m.issueAll c bs).isOff t = m.isOff t := rfl
@[simp] theorem State.now_issueAll (c : ClientId) (bs : List Burst) : (m.issueAll c bs).now = m.now := rfl
@[simp] theorem State.dir_issueAll (c : ClientId) (bs : List Burst) : (m.issueAll c bs).dir = m.dir := rfl

@[simp] theorem State.stream_complete (c : ClientId) (t : StreamId) : (m.complete c).stream t = m.stream t := rfl
@[simp] theorem State.cport_complete (c : ClientId) (t : StreamId) : (m.complete c).cport t = m.cport t := rfl
@[simp] theorem State.port_complete (c : ClientId) (q : PortId) : (m.complete c).port q = m.port q := rfl
@[simp] theorem State.walker_complete (c : ClientId) (q : PortId) : (m.complete c).walker q = m.walker q := rfl
@[simp] theorem State.publish_complete (c : ClientId) (t : StreamId) : (m.complete c).publish t = m.publish t := rfl
@[simp] theorem State.image_complete (c : ClientId) (t : StreamId) (j : BankIx) : (m.complete c).image t j = m.image t j := rfl
@[simp] theorem State.bank_complete (c : ClientId) (t : StreamId) (j : BankIx) : (m.complete c).bank t j = m.bank t j := rfl
@[simp] theorem State.filling_complete (c : ClientId) (t : StreamId) : (m.complete c).filling t = m.filling t := rfl
@[simp] theorem State.isOff_complete (c : ClientId) (t : StreamId) : (m.complete c).isOff t = m.isOff t := rfl
@[simp] theorem State.now_complete (c : ClientId) : (m.complete c).now = m.now := rfl
@[simp] theorem State.dir_complete (c : ClientId) : (m.complete c).dir = m.dir := rfl

@[simp] theorem State.stream_reach (due : Dword) (t : StreamId) : (m.reach due).stream t = m.stream t := rfl
@[simp] theorem State.cport_reach (due : Dword) (t : StreamId) : (m.reach due).cport t = m.cport t := rfl
@[simp] theorem State.port_reach (due : Dword) (q : PortId) : (m.reach due).port q = m.port q := rfl
@[simp] theorem State.walker_reach (due : Dword) (q : PortId) : (m.reach due).walker q = m.walker q := rfl
@[simp] theorem State.publish_reach (due : Dword) (t : StreamId) : (m.reach due).publish t = m.publish t := rfl
@[simp] theorem State.image_reach (due : Dword) (t : StreamId) (j : BankIx) : (m.reach due).image t j = m.image t j := rfl
@[simp] theorem State.bank_reach (due : Dword) (t : StreamId) (j : BankIx) : (m.reach due).bank t j = m.bank t j := rfl
@[simp] theorem State.filling_reach (due : Dword) (t : StreamId) : (m.reach due).filling t = m.filling t := rfl
@[simp] theorem State.isOff_reach (due : Dword) (t : StreamId) : (m.reach due).isOff t = m.isOff t := rfl
@[simp] theorem State.client_reach (due : Dword) (d : ClientId) : (m.reach due).client d = m.client d := rfl
@[simp] theorem State.dir_reach (due : Dword) : (m.reach due).dir = m.dir := rfl

@[simp] theorem State.stream_tick (t : StreamId) : (m.tick).stream t = m.stream t := rfl
@[simp] theorem State.cport_tick (t : StreamId) : (m.tick).cport t = m.cport t := rfl
@[simp] theorem State.port_tick (q : PortId) : (m.tick).port q = m.port q := rfl
@[simp] theorem State.walker_tick (q : PortId) : (m.tick).walker q = m.walker q := rfl
@[simp] theorem State.publish_tick (t : StreamId) : (m.tick).publish t = m.publish t := rfl
@[simp] theorem State.image_tick (t : StreamId) (j : BankIx) : (m.tick).image t j = m.image t j := rfl
@[simp] theorem State.bank_tick (t : StreamId) (j : BankIx) : (m.tick).bank t j = m.bank t j := rfl
@[simp] theorem State.filling_tick (t : StreamId) : (m.tick).filling t = m.filling t := rfl
@[simp] theorem State.isOff_tick (t : StreamId) : (m.tick).isOff t = m.isOff t := rfl
@[simp] theorem State.client_tick (d : ClientId) : (m.tick).client d = m.client d := rfl
@[simp] theorem State.dir_tick : (m.tick).dir = m.dir := rfl

@[simp] theorem State.cport_modStreamCounters (s : StreamId) (f : StreamCounters → StreamCounters) (t : StreamId) : (m.modStreamCounters s f).cport t = m.cport t := rfl
@[simp] theorem State.port_modStreamCounters (s : StreamId) (f : StreamCounters → StreamCounters) (q : PortId) : (m.modStreamCounters s f).port q = m.port q := rfl
@[simp] theorem State.walker_modStreamCounters (s : StreamId) (f : StreamCounters → StreamCounters) (q : PortId) : (m.modStreamCounters s f).walker q = m.walker q := rfl
@[simp] theorem State.publish_modStreamCounters (s : StreamId) (f : StreamCounters → StreamCounters) (t : StreamId) : (m.modStreamCounters s f).publish t = m.publish t := rfl
@[simp] theorem State.image_modStreamCounters (s : StreamId) (f : StreamCounters → StreamCounters) (t : StreamId) (j : BankIx) : (m.modStreamCounters s f).image t j = m.image t j := rfl
@[simp] theorem State.bank_modStreamCounters (s : StreamId) (f : StreamCounters → StreamCounters) (t : StreamId) (j : BankIx) : (m.modStreamCounters s f).bank t j = m.bank t j := rfl
@[simp] theorem State.filling_modStreamCounters (s : StreamId) (f : StreamCounters → StreamCounters) (t : StreamId) : (m.modStreamCounters s f).filling t = m.filling t := rfl
@[simp] theorem State.client_modStreamCounters (s : StreamId) (f : StreamCounters → StreamCounters) (d : ClientId) : (m.modStreamCounters s f).client d = m.client d := rfl
@[simp] theorem State.now_modStreamCounters (s : StreamId) (f : StreamCounters → StreamCounters) : (m.modStreamCounters s f).now = m.now := rfl
@[simp] theorem State.dir_modStreamCounters (s : StreamId) (f : StreamCounters → StreamCounters) : (m.modStreamCounters s f).dir = m.dir := rfl

@[simp] theorem State.stream_modPortCounters (p : PortId) (f : PortCounters → PortCounters) (t : StreamId) : (m.modPortCounters p f).stream t = m.stream t := rfl
@[simp] theorem State.cport_modPortCounters (p : PortId) (f : PortCounters → PortCounters) (t : StreamId) : (m.modPortCounters p f).cport t = m.cport t := rfl
@[simp] theorem State.walker_modPortCounters (p : PortId) (f : PortCounters → PortCounters) (q : PortId) : (m.modPortCounters p f).walker q = m.walker q := rfl
@[simp] theorem State.publish_modPortCounters (p : PortId) (f : PortCounters → PortCounters) (t : StreamId) : (m.modPortCounters p f).publish t = m.publish t := rfl
@[simp] theorem State.image_modPortCounters (p : PortId) (f : PortCounters → PortCounters) (t : StreamId) (j : BankIx) : (m.modPortCounters p f).image t j = m.image t j := rfl
@[simp] theorem State.bank_modPortCounters (p : PortId) (f : PortCounters → PortCounters) (t : StreamId) (j : BankIx) : (m.modPortCounters p f).bank t j = m.bank t j := rfl
@[simp] theorem State.filling_modPortCounters (p : PortId) (f : PortCounters → PortCounters) (t : StreamId) : (m.modPortCounters p f).filling t = m.filling t := rfl
@[simp] theorem State.isOff_modPortCounters (p : PortId) (f : PortCounters → PortCounters) (t : StreamId) : (m.modPortCounters p f).isOff t = m.isOff t := rfl
@[simp] theorem State.client_modPortCounters (p : PortId) (f : PortCounters → PortCounters) (d : ClientId) : (m.modPortCounters p f).client d = m.client d := rfl
@[simp] theorem State.now_modPortCounters (p : PortId) (f : PortCounters → PortCounters) : (m.modPortCounters p f).now = m.now := rfl
@[simp] theorem State.dir_modPortCounters (p : PortId) (f : PortCounters → PortCounters) : (m.modPortCounters p f).dir = m.dir := rfl

@[simp] theorem State.publish_modImage (s t : StreamId) (i : BankIx) (f : CatalogImage → CatalogImage) :
    (m.modImage s i f).publish t = m.publish t := rfl
@[simp] theorem State.image_modPublish (s t : StreamId) (j : BankIx) (f : PublishState → PublishState) :
    (m.modPublish s f).image t j = m.image t j := rfl

/-! ## Client queues -/

theorem Arbiter.client_setClient (a : Arbiter) (c d : ClientId) (x : Client) :
    (a.setClient c x).client d = if c = d then x else a.client d := by
  cases c <;> cases d <;>
    simp [Arbiter.setClient, Arbiter.client, Vector.getElem_set, Fin.ext_iff]

@[simp] theorem Arbiter.client_setClient_self (a : Arbiter) (c : ClientId) (x : Client) :
    (a.setClient c x).client c = x := by simp [Arbiter.client_setClient]

theorem State.client_issue (c d : ClientId) (b : Burst) :
    (m.issue c b).client d =
      if c = d then { m.client c with queue := (m.client c).queue ++ [b] } else m.client d := by
  simp only [State.client, State.issue_arb, Arbiter.issueAll, Arbiter.client_setClient]

theorem State.client_issueAll (c d : ClientId) (bs : List Burst) :
    (m.issueAll c bs).client d =
      if c = d then { m.client c with queue := (m.client c).queue ++ bs } else m.client d := by
  simp only [State.client, State.issueAll_arb, Arbiter.issueAll, Arbiter.client_setClient]

@[simp] theorem State.client_issue_self (c : ClientId) (b : Burst) :
    (m.issue c b).client c = { m.client c with queue := (m.client c).queue ++ [b] } := by simp [State.client_issue]

end Sys2Proof.Machine
end

