-- ==== Sys2Proof/Laws/Frames.lean ====
section
/-! SUPPORT. The frame of every shared operation: one simp lemma for each field of State that it leaves alone. Provers
cite these and do not unfold the operation. -/

namespace Sys2Proof.Machine

/-- A property that one operation keeps is kept by its iteration over a list. -/
theorem foldl_keeps {α β γ : Type} (f : β → α → β) (v : β → γ) (h : ∀ b a, v (f b a) = v b) (l : List α) (b : β) :
    v (l.foldl f b) = v b := by
  induction l generalizing b with
  | nil => rfl
  | cons a l ih => rw [List.foldl_cons, ih, h]

set_option Elab.async false

variable (m : State)

@[simp] theorem State.report_frame (n : SlotId) (ans : Answer) :
    (m.report n ans).ctl = m.ctl ∧ (m.report n ans).time = m.time ∧ (m.report n ans).ep = m.ep ∧
    (m.report n ans).notice = m.notice ∧ (m.report n ans).bx = m.bx ∧ (m.report n ans).pub = m.pub ∧
    (m.report n ans).streams = m.streams ∧ (m.report n ans).capture = m.capture ∧
    (m.report n ans).walkers = m.walkers ∧ (m.report n ans).ports = m.ports ∧ (m.report n ans).mem = m.mem ∧
    (m.report n ans).out = m.out ∧ (m.report n ans).reports = m.reports ∧ (m.report n ans).pending = m.pending := by
  unfold State.report
  try dsimp only
  (repeat' split) <;> simp

@[simp] theorem State.reportHeld_frame (n : Option SlotId) (ans : Answer) :
    (m.reportHeld n ans).ctl = m.ctl ∧ (m.reportHeld n ans).time = m.time ∧ (m.reportHeld n ans).ep = m.ep ∧
    (m.reportHeld n ans).notice = m.notice ∧ (m.reportHeld n ans).bx = m.bx ∧ (m.reportHeld n ans).pub = m.pub ∧
    (m.reportHeld n ans).streams = m.streams ∧ (m.reportHeld n ans).capture = m.capture ∧
    (m.reportHeld n ans).walkers = m.walkers ∧ (m.reportHeld n ans).ports = m.ports ∧
    (m.reportHeld n ans).mem = m.mem ∧ (m.reportHeld n ans).out = m.out ∧ (m.reportHeld n ans).reports = m.reports ∧
    (m.reportHeld n ans).pending = m.pending := by
  unfold State.reportHeld
  try dsimp only
  (repeat' split) <;> simp

@[simp] theorem State.askMessage_frame :
    (m.askMessage).ctl = m.ctl ∧ (m.askMessage).time = m.time ∧ (m.askMessage).ep = m.ep ∧
    (m.askMessage).req = m.req ∧ (m.askMessage).bx = m.bx ∧ (m.askMessage).pub = m.pub ∧
    (m.askMessage).streams = m.streams ∧ (m.askMessage).capture = m.capture ∧ (m.askMessage).walkers = m.walkers ∧
    (m.askMessage).ports = m.ports ∧ (m.askMessage).mem = m.mem ∧ (m.askMessage).reports = m.reports ∧
    (m.askMessage).pending = m.pending ∧
    (m.askMessage).arb = m.arb := by
  unfold State.askMessage
  try dsimp only
  (repeat' split) <;> simp

@[simp] theorem State.setNotices_frame (p e : BitVec 6) :
    (m.setNotices p e).ctl = m.ctl ∧ (m.setNotices p e).time = m.time ∧ (m.setNotices p e).ep = m.ep ∧
    (m.setNotices p e).req = m.req ∧ (m.setNotices p e).bx = m.bx ∧ (m.setNotices p e).pub = m.pub ∧
    (m.setNotices p e).streams = m.streams ∧ (m.setNotices p e).capture = m.capture ∧
    (m.setNotices p e).walkers = m.walkers ∧ (m.setNotices p e).ports = m.ports ∧ (m.setNotices p e).mem = m.mem ∧
    (m.setNotices p e).reports = m.reports ∧ (m.setNotices p e).pending = m.pending ∧
    (m.setNotices p e).arb = m.arb := by
  unfold State.setNotices
  try dsimp only
  (repeat' split) <;> simp

@[simp] theorem State.askMirror_frame :
    (m.askMirror).ctl = m.ctl ∧ (m.askMirror).time = m.time ∧ (m.askMirror).ep = m.ep ∧ (m.askMirror).req = m.req ∧
    (m.askMirror).bx = m.bx ∧ (m.askMirror).pub = m.pub ∧ (m.askMirror).streams = m.streams ∧
    (m.askMirror).capture = m.capture ∧ (m.askMirror).walkers = m.walkers ∧ (m.askMirror).ports = m.ports ∧
    (m.askMirror).mem = m.mem ∧ (m.askMirror).out = m.out ∧ (m.askMirror).reports = m.reports ∧
    (m.askMirror).pending = m.pending := by
  unfold State.askMirror
  try dsimp only
  (repeat' split) <;> simp

@[simp] theorem State.raise_frame (k : NoticeKind) :
    (m.raise k).ctl = m.ctl ∧ (m.raise k).time = m.time ∧ (m.raise k).ep = m.ep ∧ (m.raise k).req = m.req ∧
    (m.raise k).bx = m.bx ∧ (m.raise k).pub = m.pub ∧ (m.raise k).streams = m.streams ∧
    (m.raise k).capture = m.capture ∧ (m.raise k).walkers = m.walkers ∧ (m.raise k).ports = m.ports ∧
    (m.raise k).mem = m.mem ∧ (m.raise k).reports = m.reports ∧ (m.raise k).pending = m.pending := by
  unfold State.raise
  try dsimp only
  (repeat' split) <;> simp

@[simp] theorem State.raiseTimes_frame (k : NoticeKind) (n : Nat) :
    (m.raiseTimes k n).ctl = m.ctl ∧ (m.raiseTimes k n).time = m.time ∧ (m.raiseTimes k n).ep = m.ep ∧
    (m.raiseTimes k n).req = m.req ∧ (m.raiseTimes k n).bx = m.bx ∧ (m.raiseTimes k n).pub = m.pub ∧
    (m.raiseTimes k n).streams = m.streams ∧ (m.raiseTimes k n).capture = m.capture ∧
    (m.raiseTimes k n).walkers = m.walkers ∧ (m.raiseTimes k n).ports = m.ports ∧ (m.raiseTimes k n).mem = m.mem ∧
    (m.raiseTimes k n).reports = m.reports ∧ (m.raiseTimes k n).pending = m.pending := by
  induction n generalizing m with
  | zero => simp [State.raiseTimes]
  | succ n ih => simp [State.raiseTimes, ih]

@[simp] theorem State.askReport_frame (s : StreamId) (r : StatusReport) :
    (m.askReport s r).ctl = m.ctl ∧ (m.askReport s r).time = m.time ∧ (m.askReport s r).ep = m.ep ∧
    (m.askReport s r).notice = m.notice ∧ (m.askReport s r).req = m.req ∧ (m.askReport s r).bx = m.bx ∧
    (m.askReport s r).pub = m.pub ∧ (m.askReport s r).streams = m.streams ∧ (m.askReport s r).capture = m.capture ∧
    (m.askReport s r).walkers = m.walkers ∧ (m.askReport s r).ports = m.ports ∧ (m.askReport s r).arb = m.arb ∧
    (m.askReport s r).mem = m.mem ∧ (m.askReport s r).out = m.out ∧ (m.askReport s r).pending = m.pending := by
  unfold State.askReport
  try dsimp only
  (repeat' split) <;> simp

@[simp] theorem State.noteHold_frame (s : StreamId) :
    (m.noteHold s).ctl = m.ctl ∧ (m.noteHold s).time = m.time ∧ (m.noteHold s).ep = m.ep ∧
    (m.noteHold s).notice = m.notice ∧ (m.noteHold s).req = m.req ∧ (m.noteHold s).bx = m.bx ∧
    (m.noteHold s).pub = m.pub ∧ (m.noteHold s).streams = m.streams ∧ (m.noteHold s).capture = m.capture ∧
    (m.noteHold s).walkers = m.walkers ∧ (m.noteHold s).ports = m.ports ∧ (m.noteHold s).arb = m.arb ∧
    (m.noteHold s).mem = m.mem ∧ (m.noteHold s).out = m.out ∧ (m.noteHold s).pending = m.pending := by
  unfold State.noteHold
  try dsimp only
  (repeat' split) <;> simp

@[simp] theorem State.issueReports_frame (s : StreamId) :
    (m.issueReports s).ctl = m.ctl ∧ (m.issueReports s).time = m.time ∧ (m.issueReports s).ep = m.ep ∧
    (m.issueReports s).notice = m.notice ∧ (m.issueReports s).req = m.req ∧ (m.issueReports s).bx = m.bx ∧
    (m.issueReports s).pub = m.pub ∧ (m.issueReports s).streams = m.streams ∧ (m.issueReports s).capture = m.capture ∧
    (m.issueReports s).walkers = m.walkers ∧ (m.issueReports s).ports = m.ports ∧ (m.issueReports s).mem = m.mem ∧
    (m.issueReports s).out = m.out ∧ (m.issueReports s).pending = m.pending := by
  unfold State.issueReports
  try dsimp only
  (repeat' split) <;> simp

@[simp] theorem State.writeStreamStatus_frame (s : StreamId) (b : Bool) :
    (m.writeStreamStatus s b).ctl = m.ctl ∧ (m.writeStreamStatus s b).time = m.time ∧
    (m.writeStreamStatus s b).ep = m.ep ∧ (m.writeStreamStatus s b).notice = m.notice ∧
    (m.writeStreamStatus s b).req = m.req ∧ (m.writeStreamStatus s b).bx = m.bx ∧
    (m.writeStreamStatus s b).pub = m.pub ∧ (m.writeStreamStatus s b).streams = m.streams ∧
    (m.writeStreamStatus s b).capture = m.capture ∧ (m.writeStreamStatus s b).walkers = m.walkers ∧
    (m.writeStreamStatus s b).ports = m.ports ∧ (m.writeStreamStatus s b).mem = m.mem ∧
    (m.writeStreamStatus s b).out = m.out ∧ (m.writeStreamStatus s b).pending = m.pending := by
  unfold State.writeStreamStatus
  try dsimp only
  (repeat' split) <;> simp

/-- What `issueReports` does: the reports in front of the first one that awaits its catalog record write are issued, in
their order, and the rest waits on. -/
theorem State.issueReports_arb (s : StreamId) :
    (m.issueReports s).arb = (m.issueAll (streamClient s)
      (if m.ctl.device.serves then
        (m.reports[s].takeWhile fun r => !r.awaitsCatalog).map (m.streamStatusBurst s) else [])).arb := rfl

@[simp] theorem State.issueReports_reports (s : StreamId) :
    (m.issueReports s).reports = m.reports.set s (m.reports[s].dropWhile fun r => !r.awaitsCatalog) := rfl

@[simp] theorem State.askReport_reports (s : StreamId) (r : StatusReport) :
    (m.askReport s r).reports = m.reports.set s (m.reports[s] ++ [r]) := rfl

@[simp] theorem State.noteHold_reports (s : StreamId) :
    (m.noteHold s).reports = m.reports.set s (m.reports[s] ++ [m.statusReport s false true]) := rfl

/-- With no report waiting, a status record write is one burst, issued at once. -/
theorem State.writeStreamStatus_now {s : StreamId} (b : Bool) (hd : m.ctl.device.serves = true)
    (hr : m.reports[s] = []) :
    (m.writeStreamStatus s b).arb
      = (m.issue (streamClient s) (m.streamStatusBurst s (m.statusReport s b false))).arb
    ∧ (m.writeStreamStatus s b).reports[s] = [] := by
  simp [State.writeStreamStatus, State.askReport, State.issueReports, hd, hr, State.issue, State.issueAll,
    State.streamStatusBurst, State.streamRecord, State.statusReport, State.stream, State.now, State.dir]

/-- Behind a report that awaits its catalog record write a status record write waits, and nothing is issued. -/
theorem State.writeStreamStatus_later {s : StreamId} (b : Bool) {r : StatusReport} {l : List StatusReport}
    (hr : m.reports[s] = r :: l) (hw : r.awaitsCatalog = true) :
    (m.writeStreamStatus s b).arb = m.arb.issueAll (streamClient s) []
    ∧ (m.writeStreamStatus s b).reports[s] = r :: l ++ [m.statusReport s b false] := by
  simp [State.writeStreamStatus, State.askReport, State.issueReports, hr, hw, State.issueAll]

/-- The oldest hold event among the reports is settled; the reports before it stay. -/
theorem settleOldest_append {l : List StatusReport} {r : StatusReport} (rest : List StatusReport)
    (h : ∀ x ∈ l, x.awaitsCatalog = false) (hr : r.awaitsCatalog = true) :
    settleOldest (l ++ r :: rest) = l ++ { r with awaitsCatalog := false } :: rest := by
  induction l with
  | nil => simp [settleOldest, hr]
  | cons x l ih =>
    have hx := h x (by simp)
    simp [settleOldest, hx, ih fun y hy => h y (by simp [hy])]

@[simp] theorem State.holdEventWritten_frame (s : StreamId) :
    (m.holdEventWritten s).ctl = m.ctl ∧ (m.holdEventWritten s).time = m.time ∧ (m.holdEventWritten s).ep = m.ep ∧
    (m.holdEventWritten s).notice = m.notice ∧ (m.holdEventWritten s).req = m.req ∧
    (m.holdEventWritten s).bx = m.bx ∧ (m.holdEventWritten s).pub = m.pub ∧
    (m.holdEventWritten s).streams = m.streams ∧ (m.holdEventWritten s).capture = m.capture ∧
    (m.holdEventWritten s).walkers = m.walkers ∧ (m.holdEventWritten s).ports = m.ports ∧
    (m.holdEventWritten s).mem = m.mem ∧ (m.holdEventWritten s).out = m.out ∧
    (m.holdEventWritten s).pending = m.pending := by
  unfold State.holdEventWritten
  try dsimp only
  (repeat' split) <;> simp

@[simp] theorem State.noteStream_frame (t : Stream) (s : StreamId) :
    (m.noteStream t s).ctl = m.ctl ∧ (m.noteStream t s).time = m.time ∧ (m.noteStream t s).ep = m.ep ∧
    (m.noteStream t s).notice = m.notice ∧ (m.noteStream t s).req = m.req ∧ (m.noteStream t s).bx = m.bx ∧
    (m.noteStream t s).pub = m.pub ∧ (m.noteStream t s).streams = m.streams ∧
    (m.noteStream t s).capture = m.capture ∧ (m.noteStream t s).walkers = m.walkers ∧
    (m.noteStream t s).ports = m.ports ∧ (m.noteStream t s).mem = m.mem ∧ (m.noteStream t s).out = m.out ∧
    (m.noteStream t s).pending = m.pending := by
  unfold State.noteStream
  try dsimp only
  (repeat' split) <;> simp

@[simp] theorem State.noteFrameEnd_frame (s : StreamId) (before : State) :
    (m.noteFrameEnd s before).ctl = m.ctl ∧ (m.noteFrameEnd s before).time = m.time ∧
    (m.noteFrameEnd s before).ep = m.ep ∧ (m.noteFrameEnd s before).notice = m.notice ∧
    (m.noteFrameEnd s before).req = m.req ∧ (m.noteFrameEnd s before).bx = m.bx ∧
    (m.noteFrameEnd s before).pub = m.pub ∧ (m.noteFrameEnd s before).streams = m.streams ∧
    (m.noteFrameEnd s before).capture = m.capture ∧ (m.noteFrameEnd s before).walkers = m.walkers ∧
    (m.noteFrameEnd s before).ports = m.ports ∧ (m.noteFrameEnd s before).mem = m.mem ∧
    (m.noteFrameEnd s before).out = m.out ∧ (m.noteFrameEnd s before).pending = m.pending := by
  unfold State.noteFrameEnd
  try dsimp only
  (repeat' split) <;> simp

@[simp] theorem State.writePortStatus_frame (p : PortId) (n : Nat) :
    (m.writePortStatus p n).ctl = m.ctl ∧ (m.writePortStatus p n).time = m.time ∧
    (m.writePortStatus p n).ep = m.ep ∧ (m.writePortStatus p n).notice = m.notice ∧
    (m.writePortStatus p n).req = m.req ∧ (m.writePortStatus p n).bx = m.bx ∧ (m.writePortStatus p n).pub = m.pub ∧
    (m.writePortStatus p n).streams = m.streams ∧ (m.writePortStatus p n).capture = m.capture ∧
    (m.writePortStatus p n).walkers = m.walkers ∧ (m.writePortStatus p n).ports = m.ports ∧
    (m.writePortStatus p n).mem = m.mem ∧ (m.writePortStatus p n).out = m.out ∧
    (m.writePortStatus p n).reports = m.reports ∧ (m.writePortStatus p n).pending = m.pending := by
  unfold State.writePortStatus
  try dsimp only
  (repeat' split) <;> simp

@[simp] theorem State.notePort_frame (q : Port) (p : PortId) :
    (m.notePort q p).ctl = m.ctl ∧ (m.notePort q p).time = m.time ∧ (m.notePort q p).ep = m.ep ∧
    (m.notePort q p).notice = m.notice ∧ (m.notePort q p).req = m.req ∧ (m.notePort q p).bx = m.bx ∧
    (m.notePort q p).pub = m.pub ∧ (m.notePort q p).streams = m.streams ∧ (m.notePort q p).capture = m.capture ∧
    (m.notePort q p).walkers = m.walkers ∧ (m.notePort q p).ports = m.ports ∧ (m.notePort q p).mem = m.mem ∧
    (m.notePort q p).out = m.out ∧ (m.notePort q p).reports = m.reports ∧ (m.notePort q p).pending = m.pending := by
  unfold State.notePort
  try dsimp only
  (repeat' split) <;> simp

@[simp] theorem State.writeCatalog_frame (s : StreamId) (i : BankIx) (e : CatalogEvent) :
    (m.writeCatalog s i e).ctl = m.ctl ∧ (m.writeCatalog s i e).time = m.time ∧ (m.writeCatalog s i e).ep = m.ep ∧
    (m.writeCatalog s i e).notice = m.notice ∧ (m.writeCatalog s i e).req = m.req ∧
    (m.writeCatalog s i e).bx = m.bx ∧ (m.writeCatalog s i e).pub = m.pub ∧
    (m.writeCatalog s i e).streams = m.streams ∧ (m.writeCatalog s i e).capture = m.capture ∧
    (m.writeCatalog s i e).walkers = m.walkers ∧ (m.writeCatalog s i e).ports = m.ports ∧
    (m.writeCatalog s i e).mem = m.mem ∧ (m.writeCatalog s i e).out = m.out ∧
    (m.writeCatalog s i e).reports = m.reports ∧ (m.writeCatalog s i e).pending = m.pending := by
  unfold State.writeCatalog
  try dsimp only
  (repeat' split) <;> simp

@[simp] theorem State.writeHoldEvent_frame (s : StreamId) (i : BankIx) (e : CatalogEvent) :
    (m.writeHoldEvent s i e).ctl = m.ctl ∧ (m.writeHoldEvent s i e).time = m.time ∧
    (m.writeHoldEvent s i e).ep = m.ep ∧ (m.writeHoldEvent s i e).notice = m.notice ∧
    (m.writeHoldEvent s i e).req = m.req ∧ (m.writeHoldEvent s i e).bx = m.bx ∧
    (m.writeHoldEvent s i e).pub = m.pub ∧ (m.writeHoldEvent s i e).streams = m.streams ∧
    (m.writeHoldEvent s i e).capture = m.capture ∧ (m.writeHoldEvent s i e).walkers = m.walkers ∧
    (m.writeHoldEvent s i e).ports = m.ports ∧ (m.writeHoldEvent s i e).mem = m.mem ∧
    (m.writeHoldEvent s i e).out = m.out ∧ (m.writeHoldEvent s i e).pending = m.pending := by
  unfold State.writeHoldEvent
  try dsimp only
  (repeat' split) <;> simp

@[simp] theorem State.writeCatalogAdopted_frame (s : StreamId) (i : BankIx) (a : Option AdoptionAnswer) :
    (m.writeCatalogAdopted s i a).ctl = m.ctl ∧ (m.writeCatalogAdopted s i a).time = m.time ∧
    (m.writeCatalogAdopted s i a).ep = m.ep ∧ (m.writeCatalogAdopted s i a).notice = m.notice ∧
    (m.writeCatalogAdopted s i a).req = m.req ∧ (m.writeCatalogAdopted s i a).bx = m.bx ∧
    (m.writeCatalogAdopted s i a).pub = m.pub ∧ (m.writeCatalogAdopted s i a).streams = m.streams ∧
    (m.writeCatalogAdopted s i a).capture = m.capture ∧ (m.writeCatalogAdopted s i a).walkers = m.walkers ∧
    (m.writeCatalogAdopted s i a).ports = m.ports ∧ (m.writeCatalogAdopted s i a).mem = m.mem ∧
    (m.writeCatalogAdopted s i a).out = m.out ∧ (m.writeCatalogAdopted s i a).reports = m.reports ∧
    (m.writeCatalogAdopted s i a).pending = m.pending := by
  unfold State.writeCatalogAdopted
  try dsimp only
  (repeat' split) <;> simp

@[simp] theorem State.beginBoard_frame :
    (m.beginBoard).ctl = m.ctl ∧ (m.beginBoard).time = m.time ∧ (m.beginBoard).ep = m.ep ∧
    (m.beginBoard).notice = m.notice ∧ (m.beginBoard).bx = m.bx ∧ (m.beginBoard).pub = m.pub ∧
    (m.beginBoard).streams = m.streams ∧ (m.beginBoard).capture = m.capture ∧ (m.beginBoard).walkers = m.walkers ∧
    (m.beginBoard).ports = m.ports ∧ (m.beginBoard).mem = m.mem ∧ (m.beginBoard).out = m.out ∧
    (m.beginBoard).reports = m.reports ∧ (m.beginBoard).pending = m.pending := by
  unfold State.beginBoard
  try dsimp only
  (repeat' split) <;> simp

@[simp] theorem State.beginSweep_frame :
    (m.beginSweep).ctl = m.ctl ∧ (m.beginSweep).time = m.time ∧ (m.beginSweep).ep = m.ep ∧
    (m.beginSweep).notice = m.notice ∧ (m.beginSweep).bx = m.bx ∧ (m.beginSweep).pub = m.pub ∧
    (m.beginSweep).streams = m.streams ∧ (m.beginSweep).capture = m.capture ∧ (m.beginSweep).walkers = m.walkers ∧
    (m.beginSweep).ports = m.ports ∧ (m.beginSweep).mem = m.mem ∧ (m.beginSweep).out = m.out ∧
    (m.beginSweep).reports = m.reports ∧ (m.beginSweep).pending = m.pending := by
  unfold State.beginSweep
  try dsimp only
  (repeat' split) <;> simp

@[simp] theorem State.abortWaiting_frame :
    (m.abortWaiting).ctl = m.ctl ∧ (m.abortWaiting).time = m.time ∧ (m.abortWaiting).ep = m.ep ∧
    (m.abortWaiting).notice = m.notice ∧ (m.abortWaiting).bx = m.bx ∧ (m.abortWaiting).pub = m.pub ∧
    (m.abortWaiting).capture = m.capture ∧ (m.abortWaiting).walkers = m.walkers ∧ (m.abortWaiting).mem = m.mem ∧
    (m.abortWaiting).out = m.out ∧ (m.abortWaiting).reports = m.reports ∧ (m.abortWaiting).pending = m.pending := by
  have h := foldl_keeps (fun m n => m.report n (.refused .aborted))
    (fun x : State => (x.ctl, x.time, x.ep, x.notice, x.bx, x.pub,
      x.capture, x.walkers, x.mem, x.out, x.reports, x.pending))
    (fun _ _ => by simp) allSlots m
  simpa [State.abortWaiting] using h

@[simp] theorem State.noteDropped_frame (v : Vector Port 4) :
    (m.noteDropped v).ctl = m.ctl ∧ (m.noteDropped v).time = m.time ∧ (m.noteDropped v).ep = m.ep ∧
    (m.noteDropped v).notice = m.notice ∧ (m.noteDropped v).req = m.req ∧ (m.noteDropped v).bx = m.bx ∧
    (m.noteDropped v).pub = m.pub ∧ (m.noteDropped v).streams = m.streams ∧ (m.noteDropped v).capture = m.capture ∧
    (m.noteDropped v).walkers = m.walkers ∧ (m.noteDropped v).ports = m.ports ∧ (m.noteDropped v).mem = m.mem ∧
    (m.noteDropped v).out = m.out ∧ (m.noteDropped v).reports = m.reports ∧ (m.noteDropped v).pending = m.pending := by
  have h := foldl_keeps (fun (m : State) (p : PortId) => if v[p].splice.isSome then m.writePortStatus p 0 else m)
    (fun x : State => (x.ctl, x.time, x.ep, x.notice, x.req, x.bx, x.pub,
      x.streams, x.capture, x.walkers, x.ports, x.mem, x.out, x.reports, x.pending))
    (fun _ _ => by split <;> simp) allPorts m
  simpa [State.noteDropped] using h

@[simp] theorem State.endSweep_frame :
    (m.endSweep).ctl = m.ctl ∧ (m.endSweep).time = m.time ∧ (m.endSweep).ep = m.ep ∧ (m.endSweep).notice = m.notice ∧
    (m.endSweep).bx = m.bx ∧ (m.endSweep).pub = m.pub ∧ (m.endSweep).capture = m.capture ∧
    (m.endSweep).walkers = m.walkers ∧ (m.endSweep).mem = m.mem ∧ (m.endSweep).out = m.out ∧
    (m.endSweep).reports = m.reports ∧ (m.endSweep).pending = m.pending := by
  unfold State.endSweep
  try dsimp only
  (repeat' split) <;> simp

@[simp] theorem State.sweepTrigger_frame :
    (m.sweepTrigger).ctl = m.ctl ∧ (m.sweepTrigger).time = m.time ∧ (m.sweepTrigger).ep = m.ep ∧
    (m.sweepTrigger).notice = m.notice ∧ (m.sweepTrigger).bx = m.bx ∧ (m.sweepTrigger).pub = m.pub ∧
    (m.sweepTrigger).streams = m.streams ∧ (m.sweepTrigger).capture = m.capture ∧
    (m.sweepTrigger).walkers = m.walkers ∧ (m.sweepTrigger).ports = m.ports ∧ (m.sweepTrigger).mem = m.mem ∧
    (m.sweepTrigger).out = m.out ∧ (m.sweepTrigger).reports = m.reports ∧ (m.sweepTrigger).pending = m.pending := by
  unfold State.sweepTrigger
  try dsimp only
  (repeat' split) <;> simp

@[simp] theorem State.advance_frame :
    (m.advance).ctl = m.ctl ∧ (m.advance).time = m.time ∧ (m.advance).ep = m.ep ∧ (m.advance).notice = m.notice ∧
    (m.advance).bx = m.bx ∧ (m.advance).pub = m.pub ∧ (m.advance).capture = m.capture ∧
    (m.advance).walkers = m.walkers ∧ (m.advance).mem = m.mem ∧ (m.advance).out = m.out ∧
    (m.advance).reports = m.reports ∧ (m.advance).pending = m.pending := by
  unfold State.advance
  try dsimp only
  (repeat' split) <;> simp

@[simp] theorem State.markTaken_frame (n : SlotId) (r : Request) :
    (m.markTaken n r).ctl = m.ctl ∧ (m.markTaken n r).time = m.time ∧ (m.markTaken n r).ep = m.ep ∧
    (m.markTaken n r).notice = m.notice ∧ (m.markTaken n r).bx = m.bx ∧ (m.markTaken n r).pub = m.pub ∧
    (m.markTaken n r).streams = m.streams ∧ (m.markTaken n r).capture = m.capture ∧
    (m.markTaken n r).walkers = m.walkers ∧ (m.markTaken n r).ports = m.ports ∧ (m.markTaken n r).mem = m.mem ∧
    (m.markTaken n r).out = m.out ∧ (m.markTaken n r).reports = m.reports ∧ (m.markTaken n r).pending = m.pending := by
  unfold State.markTaken
  try dsimp only
  (repeat' split) <;> simp

@[simp] theorem State.setClaim_frame (p : PortId) (e : Option (StreamId × BankIx)) :
    (m.setClaim p e).ctl = m.ctl ∧ (m.setClaim p e).time = m.time ∧ (m.setClaim p e).ep = m.ep ∧
    (m.setClaim p e).notice = m.notice ∧ (m.setClaim p e).req = m.req ∧ (m.setClaim p e).pub = m.pub ∧
    (m.setClaim p e).streams = m.streams ∧ (m.setClaim p e).capture = m.capture ∧
    (m.setClaim p e).walkers = m.walkers ∧ (m.setClaim p e).ports = m.ports ∧ (m.setClaim p e).mem = m.mem ∧
    (m.setClaim p e).out = m.out ∧ (m.setClaim p e).reports = m.reports ∧ (m.setClaim p e).pending = m.pending ∧
    (m.setClaim p e).arb = m.arb := by
  unfold State.setClaim
  try dsimp only
  (repeat' split) <;> simp

@[simp] theorem State.releaseClaim_frame (p : PortId) :
    (m.releaseClaim p).ctl = m.ctl ∧ (m.releaseClaim p).time = m.time ∧ (m.releaseClaim p).ep = m.ep ∧
    (m.releaseClaim p).notice = m.notice ∧ (m.releaseClaim p).req = m.req ∧ (m.releaseClaim p).pub = m.pub ∧
    (m.releaseClaim p).streams = m.streams ∧ (m.releaseClaim p).capture = m.capture ∧
    (m.releaseClaim p).walkers = m.walkers ∧ (m.releaseClaim p).ports = m.ports ∧ (m.releaseClaim p).mem = m.mem ∧
    (m.releaseClaim p).out = m.out ∧ (m.releaseClaim p).reports = m.reports ∧ (m.releaseClaim p).pending = m.pending ∧
    (m.releaseClaim p).arb = m.arb := by
  unfold State.releaseClaim
  try dsimp only
  (repeat' split) <;> simp

@[simp] theorem State.claimRequest_frame (p : PortId) (s : StreamId) :
    (m.claimRequest p s).1.ctl = m.ctl ∧ (m.claimRequest p s).1.time = m.time ∧ (m.claimRequest p s).1.ep = m.ep ∧
    (m.claimRequest p s).1.notice = m.notice ∧ (m.claimRequest p s).1.req = m.req ∧
    (m.claimRequest p s).1.pub = m.pub ∧ (m.claimRequest p s).1.streams = m.streams ∧
    (m.claimRequest p s).1.capture = m.capture ∧ (m.claimRequest p s).1.walkers = m.walkers ∧
    (m.claimRequest p s).1.ports = m.ports ∧ (m.claimRequest p s).1.mem = m.mem ∧
    (m.claimRequest p s).1.out = m.out ∧ (m.claimRequest p s).1.reports = m.reports ∧
    (m.claimRequest p s).1.pending = m.pending ∧
    (m.claimRequest p s).1.arb = m.arb := by
  unfold State.claimRequest
  try dsimp only
  (repeat' split) <;> simp

@[simp] theorem State.placeHold_frame (s : StreamId) (i : BankIx) (r : HoldReason) :
    (m.placeHold s i r).ctl = m.ctl ∧ (m.placeHold s i r).time = m.time ∧ (m.placeHold s i r).ep = m.ep ∧
    (m.placeHold s i r).notice = m.notice ∧ (m.placeHold s i r).req = m.req ∧
    (m.placeHold s i r).streams = m.streams ∧ (m.placeHold s i r).capture = m.capture ∧
    (m.placeHold s i r).walkers = m.walkers ∧ (m.placeHold s i r).ports = m.ports ∧
    (m.placeHold s i r).mem = m.mem ∧ (m.placeHold s i r).out = m.out ∧ (m.placeHold s i r).reports = m.reports ∧
    (m.placeHold s i r).pending = m.pending ∧
    (m.placeHold s i r).arb = m.arb := by
  unfold State.placeHold
  try dsimp only
  (repeat' split) <;> simp

@[simp] theorem State.missPublish_frame (s : StreamId) :
    (m.missPublish s).ctl = m.ctl ∧ (m.missPublish s).time = m.time ∧ (m.missPublish s).ep = m.ep ∧
    (m.missPublish s).notice = m.notice ∧ (m.missPublish s).req = m.req ∧ (m.missPublish s).bx = m.bx ∧
    (m.missPublish s).pub = m.pub ∧ (m.missPublish s).capture = m.capture ∧ (m.missPublish s).walkers = m.walkers ∧
    (m.missPublish s).ports = m.ports ∧ (m.missPublish s).mem = m.mem ∧ (m.missPublish s).out = m.out ∧
    (m.missPublish s).reports = m.reports ∧ (m.missPublish s).pending = m.pending ∧ (m.missPublish s).arb = m.arb := by
  unfold State.missPublish
  try dsimp only
  (repeat' split) <;> simp

@[simp] theorem State.lend_frame (s : StreamId) (i : BankIx) :
    (m.lend s i).ctl = m.ctl ∧ (m.lend s i).time = m.time ∧ (m.lend s i).ep = m.ep ∧
    (m.lend s i).notice = m.notice ∧ (m.lend s i).req = m.req ∧ (m.lend s i).capture = m.capture ∧
    (m.lend s i).walkers = m.walkers ∧ (m.lend s i).ports = m.ports ∧ (m.lend s i).mem = m.mem ∧
    (m.lend s i).out = m.out ∧ (m.lend s i).pending = m.pending := by
  unfold State.lend
  try dsimp only
  (repeat' split) <;> simp

@[simp] theorem State.askPlacement_frame (s : StreamId) (i : BankIx) (late : Bool) :
    (m.askPlacement s i late).ctl = m.ctl ∧ (m.askPlacement s i late).time = m.time ∧
    (m.askPlacement s i late).ep = m.ep ∧ (m.askPlacement s i late).notice = m.notice ∧
    (m.askPlacement s i late).req = m.req ∧ (m.askPlacement s i late).capture = m.capture ∧
    (m.askPlacement s i late).walkers = m.walkers ∧ (m.askPlacement s i late).ports = m.ports ∧
    (m.askPlacement s i late).mem = m.mem ∧ (m.askPlacement s i late).out = m.out ∧
    (m.askPlacement s i late).pending = m.pending := by
  unfold State.askPlacement
  try dsimp only
  (repeat' split) <;> simp

@[simp] theorem State.placeOffer_frame (s : StreamId) :
    (m.placeOffer s).ctl = m.ctl ∧ (m.placeOffer s).time = m.time ∧ (m.placeOffer s).ep = m.ep ∧
    (m.placeOffer s).notice = m.notice ∧ (m.placeOffer s).req = m.req ∧ (m.placeOffer s).capture = m.capture ∧
    (m.placeOffer s).walkers = m.walkers ∧ (m.placeOffer s).ports = m.ports ∧ (m.placeOffer s).mem = m.mem ∧
    (m.placeOffer s).out = m.out ∧ (m.placeOffer s).pending = m.pending := by
  unfold State.placeOffer
  try dsimp only
  (repeat' split) <;> simp

@[simp] theorem State.publishFrame_frame (s : StreamId) (i : BankIx) (late : Bool) :
    (m.publishFrame s i late).ctl = m.ctl ∧ (m.publishFrame s i late).time = m.time ∧
    (m.publishFrame s i late).ep = m.ep ∧ (m.publishFrame s i late).notice = m.notice ∧
    (m.publishFrame s i late).req = m.req ∧ (m.publishFrame s i late).capture = m.capture ∧
    (m.publishFrame s i late).walkers = m.walkers ∧ (m.publishFrame s i late).ports = m.ports ∧
    (m.publishFrame s i late).mem = m.mem ∧ (m.publishFrame s i late).out = m.out ∧
    (m.publishFrame s i late).pending = m.pending := by
  unfold State.publishFrame
  try dsimp only
  (repeat' split) <;> simp

@[simp] theorem State.endHold_frame (s : StreamId) (i : BankIx) (c : CatalogState) :
    (m.endHold s i c).ctl = m.ctl ∧ (m.endHold s i c).time = m.time ∧ (m.endHold s i c).ep = m.ep ∧
    (m.endHold s i c).notice = m.notice ∧ (m.endHold s i c).req = m.req ∧ (m.endHold s i c).streams = m.streams ∧
    (m.endHold s i c).capture = m.capture ∧ (m.endHold s i c).walkers = m.walkers ∧
    (m.endHold s i c).ports = m.ports ∧ (m.endHold s i c).mem = m.mem ∧ (m.endHold s i c).out = m.out ∧
    (m.endHold s i c).reports = m.reports ∧ (m.endHold s i c).pending = m.pending ∧ (m.endHold s i c).arb = m.arb := by
  unfold State.endHold
  try dsimp only
  (repeat' split) <;> simp

@[simp] theorem State.reclaim_frame (s : StreamId) (i : BankIx) (c : ReclaimCause) (e : CatalogEvent) :
    (m.reclaim s i c e).ctl = m.ctl ∧ (m.reclaim s i c e).time = m.time ∧ (m.reclaim s i c e).ep = m.ep ∧
    (m.reclaim s i c e).notice = m.notice ∧ (m.reclaim s i c e).req = m.req ∧
    (m.reclaim s i c e).streams = m.streams ∧ (m.reclaim s i c e).capture = m.capture ∧
    (m.reclaim s i c e).walkers = m.walkers ∧ (m.reclaim s i c e).ports = m.ports ∧
    (m.reclaim s i c e).mem = m.mem ∧ (m.reclaim s i c e).out = m.out ∧ (m.reclaim s i c e).pending = m.pending := by
  unfold State.reclaim
  try dsimp only
  (repeat' split) <;> simp

@[simp] theorem State.examineReturn_frame (s : StreamId) (i : BankIx) (t : Half) :
    (m.examineReturn s i t).ctl = m.ctl ∧ (m.examineReturn s i t).time = m.time ∧
    (m.examineReturn s i t).ep = m.ep ∧ (m.examineReturn s i t).notice = m.notice ∧
    (m.examineReturn s i t).req = m.req ∧ (m.examineReturn s i t).streams = m.streams ∧
    (m.examineReturn s i t).capture = m.capture ∧ (m.examineReturn s i t).walkers = m.walkers ∧
    (m.examineReturn s i t).ports = m.ports ∧ (m.examineReturn s i t).mem = m.mem ∧
    (m.examineReturn s i t).out = m.out ∧ (m.examineReturn s i t).pending = m.pending := by
  unfold State.examineReturn
  try dsimp only
  (repeat' split) <;> simp

@[simp] theorem State.reportHold_frame (s : StreamId) (e : CatalogEvent) :
    (m.reportHold s e).ctl = m.ctl ∧ (m.reportHold s e).time = m.time ∧ (m.reportHold s e).ep = m.ep ∧
    (m.reportHold s e).notice = m.notice ∧ (m.reportHold s e).req = m.req ∧ (m.reportHold s e).bx = m.bx ∧
    (m.reportHold s e).pub = m.pub ∧ (m.reportHold s e).capture = m.capture ∧
    (m.reportHold s e).walkers = m.walkers ∧ (m.reportHold s e).ports = m.ports ∧ (m.reportHold s e).mem = m.mem ∧
    (m.reportHold s e).out = m.out ∧ (m.reportHold s e).reports = m.reports ∧ (m.reportHold s e).pending = m.pending ∧
    (m.reportHold s e).arb = m.arb := by
  unfold State.reportHold
  try dsimp only
  (repeat' split) <;> simp

@[simp] theorem State.catalogWritten_frame (s : StreamId) (e : CatalogEvent) :
    (m.catalogWritten s e).ctl = m.ctl ∧ (m.catalogWritten s e).time = m.time ∧ (m.catalogWritten s e).ep = m.ep ∧
    (m.catalogWritten s e).bx = m.bx ∧ (m.catalogWritten s e).pub = m.pub ∧
    (m.catalogWritten s e).capture = m.capture ∧ (m.catalogWritten s e).walkers = m.walkers ∧
    (m.catalogWritten s e).mem = m.mem ∧ (m.catalogWritten s e).pending = m.pending := by
  unfold State.catalogWritten
  try dsimp only
  (repeat' split) <;> simp

@[simp] theorem State.reclaimAll_frame (l : List (StreamId × BankIx)) :
    (m.reclaimAll l).ctl = m.ctl ∧ (m.reclaimAll l).time = m.time ∧ (m.reclaimAll l).ep = m.ep ∧
    (m.reclaimAll l).notice = m.notice ∧ (m.reclaimAll l).req = m.req ∧ (m.reclaimAll l).streams = m.streams ∧
    (m.reclaimAll l).capture = m.capture ∧ (m.reclaimAll l).walkers = m.walkers ∧ (m.reclaimAll l).ports = m.ports ∧
    (m.reclaimAll l).mem = m.mem ∧ (m.reclaimAll l).out = m.out ∧ (m.reclaimAll l).pending = m.pending := by
  have h := foldl_keeps (fun m q => m.reclaim q.1 q.2 .halt .haltReclaimed)
    (fun x : State => (x.ctl, x.time, x.ep, x.notice, x.req,
      x.streams, x.capture, x.walkers, x.ports, x.mem, x.out, x.pending))
    (fun _ _ => by simp) l m
  simpa [State.reclaimAll] using h

@[simp] theorem State.returnsDone_frame :
    (m.returnsDone).ctl = m.ctl ∧ (m.returnsDone).time = m.time ∧ (m.returnsDone).ep = m.ep ∧
    (m.returnsDone).notice = m.notice ∧ (m.returnsDone).bx = m.bx ∧ (m.returnsDone).pub = m.pub ∧
    (m.returnsDone).capture = m.capture ∧ (m.returnsDone).walkers = m.walkers ∧ (m.returnsDone).mem = m.mem ∧
    (m.returnsDone).out = m.out ∧ (m.returnsDone).reports = m.reports ∧ (m.returnsDone).pending = m.pending := by
  unfold State.returnsDone
  try dsimp only
  (repeat' split) <;> simp

@[simp] theorem State.boardArrived_frame (g : Granted) :
    (m.boardArrived g).ctl = m.ctl ∧ (m.boardArrived g).time = m.time ∧ (m.boardArrived g).ep = m.ep ∧
    (m.boardArrived g).notice = m.notice ∧ (m.boardArrived g).bx = m.bx ∧ (m.boardArrived g).pub = m.pub ∧
    (m.boardArrived g).capture = m.capture ∧ (m.boardArrived g).walkers = m.walkers ∧ (m.boardArrived g).mem = m.mem ∧
    (m.boardArrived g).out = m.out ∧ (m.boardArrived g).reports = m.reports ∧
    (m.boardArrived g).pending = m.pending := by
  unfold State.boardArrived
  try dsimp only
  (repeat' split) <;> simp

@[simp] theorem State.dropLines_frame (s : StreamId) :
    (m.dropLines s).ctl = m.ctl ∧ (m.dropLines s).time = m.time ∧ (m.dropLines s).ep = m.ep ∧
    (m.dropLines s).notice = m.notice ∧ (m.dropLines s).req = m.req ∧ (m.dropLines s).bx = m.bx ∧
    (m.dropLines s).pub = m.pub ∧ (m.dropLines s).streams = m.streams ∧ (m.dropLines s).walkers = m.walkers ∧
    (m.dropLines s).ports = m.ports ∧ (m.dropLines s).mem = m.mem ∧ (m.dropLines s).out = m.out ∧
    (m.dropLines s).reports = m.reports ∧ (m.dropLines s).pending = m.pending := by
  unfold State.dropLines
  try dsimp only
  (repeat' split) <;> simp

@[simp] theorem State.settleFreeze_frame (s : StreamId) :
    (m.settleFreeze s).ctl = m.ctl ∧ (m.settleFreeze s).time = m.time ∧ (m.settleFreeze s).ep = m.ep ∧
    (m.settleFreeze s).notice = m.notice ∧ (m.settleFreeze s).bx = m.bx ∧ (m.settleFreeze s).pub = m.pub ∧
    (m.settleFreeze s).capture = m.capture ∧ (m.settleFreeze s).walkers = m.walkers ∧
    (m.settleFreeze s).ports = m.ports ∧ (m.settleFreeze s).mem = m.mem ∧ (m.settleFreeze s).out = m.out ∧
    (m.settleFreeze s).reports = m.reports ∧ (m.settleFreeze s).pending = m.pending := by
  unfold State.settleFreeze
  try dsimp only
  (repeat' split) <;> simp

@[simp] theorem State.breakFrame_frame (s : StreamId) (i : BankIx) (c : BreakCause) :
    (m.breakFrame s i c).ctl = m.ctl ∧ (m.breakFrame s i c).time = m.time ∧ (m.breakFrame s i c).ep = m.ep ∧
    (m.breakFrame s i c).notice = m.notice ∧ (m.breakFrame s i c).pub = m.pub ∧
    (m.breakFrame s i c).walkers = m.walkers ∧ (m.breakFrame s i c).ports = m.ports ∧
    (m.breakFrame s i c).mem = m.mem ∧ (m.breakFrame s i c).out = m.out ∧ (m.breakFrame s i c).reports = m.reports ∧
    (m.breakFrame s i c).pending = m.pending := by
  unfold State.breakFrame
  try dsimp only
  (repeat' split) <;> simp

@[simp] theorem State.completeFrame_frame (s : StreamId) (i : BankIx) (late : Bool) :
    (m.completeFrame s i late).ctl = m.ctl ∧ (m.completeFrame s i late).time = m.time ∧
    (m.completeFrame s i late).ep = m.ep ∧ (m.completeFrame s i late).notice = m.notice ∧
    (m.completeFrame s i late).walkers = m.walkers ∧ (m.completeFrame s i late).ports = m.ports ∧
    (m.completeFrame s i late).mem = m.mem ∧ (m.completeFrame s i late).out = m.out ∧
    (m.completeFrame s i late).pending = m.pending := by
  unfold State.completeFrame
  try dsimp only
  (repeat' split) <;> simp

@[simp] theorem State.enterOff_frame (s : StreamId) :
    (m.enterOff s).ctl = m.ctl ∧ (m.enterOff s).time = m.time ∧ (m.enterOff s).ep = m.ep ∧
    (m.enterOff s).notice = m.notice ∧ (m.enterOff s).pub = m.pub ∧ (m.enterOff s).walkers = m.walkers ∧
    (m.enterOff s).ports = m.ports ∧ (m.enterOff s).mem = m.mem ∧ (m.enterOff s).out = m.out ∧
    (m.enterOff s).reports = m.reports ∧ (m.enterOff s).pending = m.pending := by
  unfold State.enterOff
  try dsimp only
  (repeat' split) <;> simp

@[simp] theorem State.breakAndDrain_frame (s : StreamId) (i : BankIx) (c : BreakCause) :
    (m.breakAndDrain s i c).ctl = m.ctl ∧ (m.breakAndDrain s i c).time = m.time ∧
    (m.breakAndDrain s i c).ep = m.ep ∧ (m.breakAndDrain s i c).notice = m.notice ∧
    (m.breakAndDrain s i c).pub = m.pub ∧ (m.breakAndDrain s i c).walkers = m.walkers ∧
    (m.breakAndDrain s i c).ports = m.ports ∧ (m.breakAndDrain s i c).mem = m.mem ∧
    (m.breakAndDrain s i c).out = m.out ∧ (m.breakAndDrain s i c).reports = m.reports ∧
    (m.breakAndDrain s i c).pending = m.pending := by
  unfold State.breakAndDrain
  try dsimp only
  (repeat' split) <;> simp

@[simp] theorem State.classify_frame (s : StreamId) (d : Dword) :
    (m.classify s d).ctl = m.ctl ∧ (m.classify s d).time = m.time ∧ (m.classify s d).ep = m.ep ∧
    (m.classify s d).notice = m.notice ∧ (m.classify s d).req = m.req ∧ (m.classify s d).pub = m.pub ∧
    (m.classify s d).capture = m.capture ∧ (m.classify s d).walkers = m.walkers ∧ (m.classify s d).ports = m.ports ∧
    (m.classify s d).mem = m.mem ∧ (m.classify s d).out = m.out ∧ (m.classify s d).reports = m.reports ∧
    (m.classify s d).pending = m.pending ∧
    (m.classify s d).arb = m.arb := by
  unfold State.classify
  try dsimp only
  (repeat' split) <;> simp

@[simp] theorem State.countFrame_frame (s : StreamId) (d : Dword) :
    (m.countFrame s d).ctl = m.ctl ∧ (m.countFrame s d).time = m.time ∧ (m.countFrame s d).ep = m.ep ∧
    (m.countFrame s d).notice = m.notice ∧ (m.countFrame s d).pub = m.pub ∧ (m.countFrame s d).walkers = m.walkers ∧
    (m.countFrame s d).ports = m.ports ∧ (m.countFrame s d).mem = m.mem ∧ (m.countFrame s d).out = m.out ∧
    (m.countFrame s d).reports = m.reports ∧ (m.countFrame s d).pending = m.pending := by
  unfold State.countFrame
  try dsimp only
  (repeat' split) <;> simp

@[simp] theorem State.presentFrameStart_frame (s : StreamId) (d : Dword) :
    (m.presentFrameStart s d).ctl = m.ctl ∧ (m.presentFrameStart s d).time = m.time ∧
    (m.presentFrameStart s d).ep = m.ep ∧ (m.presentFrameStart s d).notice = m.notice ∧
    (m.presentFrameStart s d).walkers = m.walkers ∧ (m.presentFrameStart s d).ports = m.ports ∧
    (m.presentFrameStart s d).mem = m.mem ∧ (m.presentFrameStart s d).out = m.out ∧
    (m.presentFrameStart s d).pending = m.pending := by
  unfold State.presentFrameStart
  try dsimp only
  (repeat' split) <;> simp

@[simp] theorem State.presentFrameEnd_frame (s : StreamId) (late : Bool) :
    (m.presentFrameEnd s late).ctl = m.ctl ∧ (m.presentFrameEnd s late).time = m.time ∧
    (m.presentFrameEnd s late).ep = m.ep ∧ (m.presentFrameEnd s late).notice = m.notice ∧
    (m.presentFrameEnd s late).walkers = m.walkers ∧ (m.presentFrameEnd s late).ports = m.ports ∧
    (m.presentFrameEnd s late).mem = m.mem ∧ (m.presentFrameEnd s late).out = m.out ∧
    (m.presentFrameEnd s late).pending = m.pending := by
  unfold State.presentFrameEnd
  try dsimp only
  (repeat' split) <;> simp

@[simp] theorem State.presentWaitingStart_frame (s : StreamId) :
    (m.presentWaitingStart s).ctl = m.ctl ∧ (m.presentWaitingStart s).time = m.time ∧
    (m.presentWaitingStart s).ep = m.ep ∧ (m.presentWaitingStart s).notice = m.notice ∧
    (m.presentWaitingStart s).walkers = m.walkers ∧ (m.presentWaitingStart s).ports = m.ports ∧
    (m.presentWaitingStart s).mem = m.mem ∧ (m.presentWaitingStart s).out = m.out ∧
    (m.presentWaitingStart s).pending = m.pending := by
  unfold State.presentWaitingStart
  split <;> simp

@[simp] theorem State.presentStarts_frame (s : StreamId) :
    (m.presentStarts s).ctl = m.ctl ∧ (m.presentStarts s).time = m.time ∧ (m.presentStarts s).ep = m.ep ∧
    (m.presentStarts s).notice = m.notice ∧ (m.presentStarts s).walkers = m.walkers ∧
    (m.presentStarts s).ports = m.ports ∧ (m.presentStarts s).mem = m.mem ∧ (m.presentStarts s).out = m.out ∧
    (m.presentStarts s).pending = m.pending := by
  have h := foldl_keeps (fun m _ => m.presentWaitingStart s)
    (fun x : State => (x.ctl, x.time, x.ep, x.notice, x.walkers, x.ports, x.mem, x.out, x.pending))
    (fun _ _ => by simp) (m.cport s).waiting m
  unfold State.presentStarts
  split
  · simp
  · simpa using h

@[simp] theorem State.storePixels_frame (s : StreamId) (i : BankIx) (e : Fin 2) (l : BufferedLine) (px : List Byte) :
    (m.storePixels s i e l px).ctl = m.ctl ∧ (m.storePixels s i e l px).time = m.time ∧
    (m.storePixels s i e l px).ep = m.ep ∧ (m.storePixels s i e l px).notice = m.notice ∧
    (m.storePixels s i e l px).req = m.req ∧ (m.storePixels s i e l px).bx = m.bx ∧
    (m.storePixels s i e l px).pub = m.pub ∧ (m.storePixels s i e l px).streams = m.streams ∧
    (m.storePixels s i e l px).walkers = m.walkers ∧ (m.storePixels s i e l px).ports = m.ports ∧
    (m.storePixels s i e l px).mem = m.mem ∧ (m.storePixels s i e l px).out = m.out ∧
    (m.storePixels s i e l px).reports = m.reports ∧ (m.storePixels s i e l px).pending = m.pending := by
  unfold State.storePixels
  try dsimp only
  (repeat' split) <;> simp

@[simp] theorem State.takeEntry_frame (s : StreamId) (i : BankIx) (e : Fin 2) (r : Nat) (px : List Byte) (n : Nat) :
    (m.takeEntry s i e r px n).ctl = m.ctl ∧ (m.takeEntry s i e r px n).time = m.time ∧
    (m.takeEntry s i e r px n).ep = m.ep ∧ (m.takeEntry s i e r px n).notice = m.notice ∧
    (m.takeEntry s i e r px n).req = m.req ∧ (m.takeEntry s i e r px n).bx = m.bx ∧
    (m.takeEntry s i e r px n).pub = m.pub ∧ (m.takeEntry s i e r px n).streams = m.streams ∧
    (m.takeEntry s i e r px n).walkers = m.walkers ∧ (m.takeEntry s i e r px n).ports = m.ports ∧
    (m.takeEntry s i e r px n).mem = m.mem ∧ (m.takeEntry s i e r px n).out = m.out ∧
    (m.takeEntry s i e r px n).reports = m.reports ∧ (m.takeEntry s i e r px n).pending = m.pending := by
  unfold State.takeEntry
  try dsimp only
  (repeat' split) <;> simp

@[simp] theorem State.discardLine_frame (s : StreamId) :
    (m.discardLine s).ctl = m.ctl ∧ (m.discardLine s).time = m.time ∧ (m.discardLine s).ep = m.ep ∧
    (m.discardLine s).notice = m.notice ∧ (m.discardLine s).req = m.req ∧ (m.discardLine s).bx = m.bx ∧
    (m.discardLine s).pub = m.pub ∧ (m.discardLine s).streams = m.streams ∧ (m.discardLine s).walkers = m.walkers ∧
    (m.discardLine s).ports = m.ports ∧ (m.discardLine s).mem = m.mem ∧ (m.discardLine s).out = m.out ∧
    (m.discardLine s).reports = m.reports ∧ (m.discardLine s).pending = m.pending ∧ (m.discardLine s).arb = m.arb := by
  unfold State.discardLine
  try dsimp only
  (repeat' split) <;> simp

@[simp] theorem State.startLine_frame (s : StreamId) (px : List Byte) :
    (m.startLine s px).ctl = m.ctl ∧ (m.startLine s px).time = m.time ∧ (m.startLine s px).ep = m.ep ∧
    (m.startLine s px).notice = m.notice ∧ (m.startLine s px).pub = m.pub ∧ (m.startLine s px).walkers = m.walkers ∧
    (m.startLine s px).ports = m.ports ∧ (m.startLine s px).mem = m.mem ∧ (m.startLine s px).out = m.out ∧
    (m.startLine s px).pending = m.pending := by
  unfold State.startLine
  try dsimp only
  (repeat' split) <;> simp

@[simp] theorem State.continueLine_frame (s : StreamId) (n : Nat) (e : Option (Fin 2)) (px : List Byte) :
    (m.continueLine s n e px).ctl = m.ctl ∧ (m.continueLine s n e px).time = m.time ∧
    (m.continueLine s n e px).ep = m.ep ∧ (m.continueLine s n e px).notice = m.notice ∧
    (m.continueLine s n e px).req = m.req ∧ (m.continueLine s n e px).bx = m.bx ∧
    (m.continueLine s n e px).pub = m.pub ∧ (m.continueLine s n e px).streams = m.streams ∧
    (m.continueLine s n e px).walkers = m.walkers ∧ (m.continueLine s n e px).ports = m.ports ∧
    (m.continueLine s n e px).mem = m.mem ∧ (m.continueLine s n e px).out = m.out ∧
    (m.continueLine s n e px).reports = m.reports ∧ (m.continueLine s n e px).pending = m.pending := by
  unfold State.continueLine
  try dsimp only
  (repeat' split) <;> simp

@[simp] theorem State.receivePixels_frame (s : StreamId) (px : List Byte) :
    (m.receivePixels s px).ctl = m.ctl ∧ (m.receivePixels s px).time = m.time ∧ (m.receivePixels s px).ep = m.ep ∧
    (m.receivePixels s px).notice = m.notice ∧ (m.receivePixels s px).walkers = m.walkers ∧ (m.receivePixels s px).ports = m.ports ∧
    (m.receivePixels s px).mem = m.mem ∧ (m.receivePixels s px).out = m.out ∧
    (m.receivePixels s px).pending = m.pending := by
  unfold State.receivePixels
  try dsimp only
  (repeat' split) <;> simp

@[simp] theorem State.endEntry_frame (s : StreamId) (i : BankIx) (e : Fin 2) :
    (m.endEntry s i e).ctl = m.ctl ∧ (m.endEntry s i e).time = m.time ∧ (m.endEntry s i e).ep = m.ep ∧
    (m.endEntry s i e).notice = m.notice ∧ (m.endEntry s i e).req = m.req ∧ (m.endEntry s i e).bx = m.bx ∧
    (m.endEntry s i e).pub = m.pub ∧ (m.endEntry s i e).streams = m.streams ∧
    (m.endEntry s i e).walkers = m.walkers ∧ (m.endEntry s i e).ports = m.ports ∧ (m.endEntry s i e).mem = m.mem ∧
    (m.endEntry s i e).out = m.out ∧ (m.endEntry s i e).reports = m.reports ∧
    (m.endEntry s i e).pending = m.pending := by
  unfold State.endEntry
  try dsimp only
  (repeat' split) <;> simp

@[simp] theorem State.countLine_frame (s : StreamId) (n : Nat) :
    (m.countLine s n).ctl = m.ctl ∧ (m.countLine s n).time = m.time ∧ (m.countLine s n).ep = m.ep ∧
    (m.countLine s n).notice = m.notice ∧ (m.countLine s n).req = m.req ∧ (m.countLine s n).bx = m.bx ∧
    (m.countLine s n).pub = m.pub ∧ (m.countLine s n).capture = m.capture ∧ (m.countLine s n).walkers = m.walkers ∧
    (m.countLine s n).ports = m.ports ∧ (m.countLine s n).mem = m.mem ∧ (m.countLine s n).out = m.out ∧
    (m.countLine s n).reports = m.reports ∧ (m.countLine s n).pending = m.pending ∧ (m.countLine s n).arb = m.arb := by
  unfold State.countLine
  try dsimp only
  (repeat' split) <;> simp

@[simp] theorem State.emptyLine_frame (s : StreamId) :
    (m.emptyLine s).ctl = m.ctl ∧ (m.emptyLine s).time = m.time ∧ (m.emptyLine s).ep = m.ep ∧
    (m.emptyLine s).notice = m.notice ∧ (m.emptyLine s).req = m.req ∧ (m.emptyLine s).bx = m.bx ∧
    (m.emptyLine s).pub = m.pub ∧ (m.emptyLine s).capture = m.capture ∧ (m.emptyLine s).walkers = m.walkers ∧
    (m.emptyLine s).ports = m.ports ∧ (m.emptyLine s).mem = m.mem ∧ (m.emptyLine s).out = m.out ∧
    (m.emptyLine s).reports = m.reports ∧ (m.emptyLine s).pending = m.pending ∧ (m.emptyLine s).arb = m.arb := by
  unfold State.emptyLine
  (repeat' split) <;> simp

@[simp] theorem State.endLine_frame (s : StreamId) :
    (m.endLine s).ctl = m.ctl ∧ (m.endLine s).time = m.time ∧ (m.endLine s).ep = m.ep ∧
    (m.endLine s).notice = m.notice ∧ (m.endLine s).walkers = m.walkers ∧ (m.endLine s).ports = m.ports ∧
    (m.endLine s).mem = m.mem ∧ (m.endLine s).out = m.out ∧ (m.endLine s).pending = m.pending := by
  unfold State.endLine
  try dsimp only
  (repeat' split) <;> simp

@[simp] theorem State.writeAdopted_frame (s : StreamId) (g : Geometry) (a : AdoptionAnswer) :
    (m.writeAdopted s g a).ctl = m.ctl ∧ (m.writeAdopted s g a).time = m.time ∧ (m.writeAdopted s g a).ep = m.ep ∧
    (m.writeAdopted s g a).notice = m.notice ∧ (m.writeAdopted s g a).req = m.req ∧
    (m.writeAdopted s g a).bx = m.bx ∧ (m.writeAdopted s g a).pub = m.pub ∧
    (m.writeAdopted s g a).streams = m.streams ∧ (m.writeAdopted s g a).capture = m.capture ∧
    (m.writeAdopted s g a).walkers = m.walkers ∧ (m.writeAdopted s g a).ports = m.ports ∧
    (m.writeAdopted s g a).mem = m.mem ∧ (m.writeAdopted s g a).out = m.out ∧
    (m.writeAdopted s g a).reports = m.reports ∧ (m.writeAdopted s g a).pending = m.pending := by
  have h := foldl_keeps (fun m i => m.writeCatalogAdopted s i (if i.val + 1 = g.bankCount.toNat then some a else none))
    (fun x : State => (x.ctl, x.time, x.ep, x.notice, x.req, x.bx, x.pub,
      x.streams, x.capture, x.walkers, x.ports, x.mem, x.out, x.reports, x.pending))
    (fun _ _ => by simp) (allBanks.filter g.inSet) m
  simpa [State.writeAdopted] using h

@[simp] theorem State.adopt_frame (s : StreamId) (n : SlotId) (c : StreamConfig) :
    (m.adopt s n c).ctl = m.ctl ∧ (m.adopt s n c).time = m.time ∧ (m.adopt s n c).ep = m.ep ∧
    (m.adopt s n c).notice = m.notice ∧ (m.adopt s n c).req = m.req ∧ (m.adopt s n c).capture = m.capture ∧
    (m.adopt s n c).walkers = m.walkers ∧ (m.adopt s n c).ports = m.ports ∧ (m.adopt s n c).mem = m.mem ∧
    (m.adopt s n c).out = m.out ∧ (m.adopt s n c).pending = m.pending := by
  unfold State.adopt
  try dsimp only
  (repeat' split) <;> simp

@[simp] theorem State.tryAdopt_frame (s : StreamId) :
    (m.tryAdopt s).ctl = m.ctl ∧ (m.tryAdopt s).time = m.time ∧ (m.tryAdopt s).ep = m.ep ∧
    (m.tryAdopt s).notice = m.notice ∧ (m.tryAdopt s).req = m.req ∧ (m.tryAdopt s).capture = m.capture ∧
    (m.tryAdopt s).walkers = m.walkers ∧ (m.tryAdopt s).ports = m.ports ∧ (m.tryAdopt s).mem = m.mem ∧
    (m.tryAdopt s).out = m.out ∧ (m.tryAdopt s).pending = m.pending := by
  unfold State.tryAdopt
  try dsimp only
  (repeat' split) <;> simp

@[simp] theorem State.stopFrames_frame (s : StreamId) :
    (m.stopFrames s).ctl = m.ctl ∧ (m.stopFrames s).time = m.time ∧ (m.stopFrames s).ep = m.ep ∧
    (m.stopFrames s).notice = m.notice ∧ (m.stopFrames s).pub = m.pub ∧ (m.stopFrames s).walkers = m.walkers ∧
    (m.stopFrames s).ports = m.ports ∧ (m.stopFrames s).mem = m.mem ∧ (m.stopFrames s).out = m.out ∧
    (m.stopFrames s).reports = m.reports ∧ (m.stopFrames s).pending = m.pending := by
  unfold State.stopFrames
  try dsimp only
  (repeat' split) <;> simp

@[simp] theorem State.haltStream_frame (s : StreamId) :
    (m.haltStream s).ctl = m.ctl ∧ (m.haltStream s).time = m.time ∧ (m.haltStream s).ep = m.ep ∧
    (m.haltStream s).notice = m.notice ∧ (m.haltStream s).walkers = m.walkers ∧ (m.haltStream s).ports = m.ports ∧
    (m.haltStream s).mem = m.mem ∧ (m.haltStream s).out = m.out ∧ (m.haltStream s).pending = m.pending := by
  unfold State.haltStream
  try dsimp only
  (repeat' split) <;> simp

@[simp] theorem State.beginFetch_frame (p : PortId) (a : Word) (o : Origin) :
    (m.beginFetch p a o).ctl = m.ctl ∧ (m.beginFetch p a o).time = m.time ∧ (m.beginFetch p a o).ep = m.ep ∧
    (m.beginFetch p a o).notice = m.notice ∧ (m.beginFetch p a o).req = m.req ∧ (m.beginFetch p a o).bx = m.bx ∧
    (m.beginFetch p a o).pub = m.pub ∧ (m.beginFetch p a o).streams = m.streams ∧
    (m.beginFetch p a o).capture = m.capture ∧ (m.beginFetch p a o).ports = m.ports ∧
    (m.beginFetch p a o).mem = m.mem ∧ (m.beginFetch p a o).out = m.out ∧ (m.beginFetch p a o).reports = m.reports ∧
    (m.beginFetch p a o).pending = m.pending := by
  unfold State.beginFetch
  try dsimp only
  (repeat' split) <;> simp

@[simp] theorem State.followLink_frame (p : PortId) (l : Option Word) :
    (m.followLink p l).ctl = m.ctl ∧ (m.followLink p l).time = m.time ∧ (m.followLink p l).ep = m.ep ∧
    (m.followLink p l).notice = m.notice ∧ (m.followLink p l).req = m.req ∧ (m.followLink p l).bx = m.bx ∧
    (m.followLink p l).pub = m.pub ∧ (m.followLink p l).streams = m.streams ∧
    (m.followLink p l).capture = m.capture ∧ (m.followLink p l).ports = m.ports ∧ (m.followLink p l).mem = m.mem ∧
    (m.followLink p l).out = m.out ∧ (m.followLink p l).reports = m.reports ∧
    (m.followLink p l).pending = m.pending := by
  unfold State.followLink
  try dsimp only
  (repeat' split) <;> simp

@[simp] theorem State.fetchHead_frame (p : PortId) (a : Word) :
    (m.fetchHead p a).ctl = m.ctl ∧ (m.fetchHead p a).time = m.time ∧ (m.fetchHead p a).ep = m.ep ∧
    (m.fetchHead p a).notice = m.notice ∧ (m.fetchHead p a).req = m.req ∧ (m.fetchHead p a).bx = m.bx ∧
    (m.fetchHead p a).pub = m.pub ∧ (m.fetchHead p a).streams = m.streams ∧ (m.fetchHead p a).capture = m.capture ∧
    (m.fetchHead p a).ports = m.ports ∧ (m.fetchHead p a).mem = m.mem ∧ (m.fetchHead p a).out = m.out ∧
    (m.fetchHead p a).reports = m.reports ∧ (m.fetchHead p a).pending = m.pending := by
  unfold State.fetchHead
  try dsimp only
  (repeat' split) <;> simp

@[simp] theorem State.prefetch_frame (p : PortId) (l : Option Word) :
    (m.prefetch p l).ctl = m.ctl ∧ (m.prefetch p l).time = m.time ∧ (m.prefetch p l).ep = m.ep ∧
    (m.prefetch p l).notice = m.notice ∧ (m.prefetch p l).req = m.req ∧ (m.prefetch p l).bx = m.bx ∧
    (m.prefetch p l).pub = m.pub ∧ (m.prefetch p l).streams = m.streams ∧ (m.prefetch p l).capture = m.capture ∧
    (m.prefetch p l).ports = m.ports ∧ (m.prefetch p l).mem = m.mem ∧ (m.prefetch p l).out = m.out ∧
    (m.prefetch p l).reports = m.reports ∧ (m.prefetch p l).pending = m.pending := by
  unfold State.prefetch
  try dsimp only
  (repeat' split) <;> simp

@[simp] theorem State.linkFetched_frame (p : PortId) (a : Word) (bs : List Byte) :
    (m.linkFetched p a bs).ctl = m.ctl ∧ (m.linkFetched p a bs).time = m.time ∧ (m.linkFetched p a bs).ep = m.ep ∧
    (m.linkFetched p a bs).notice = m.notice ∧ (m.linkFetched p a bs).req = m.req ∧
    (m.linkFetched p a bs).bx = m.bx ∧ (m.linkFetched p a bs).pub = m.pub ∧
    (m.linkFetched p a bs).streams = m.streams ∧ (m.linkFetched p a bs).capture = m.capture ∧
    (m.linkFetched p a bs).mem = m.mem ∧ (m.linkFetched p a bs).out = m.out ∧
    (m.linkFetched p a bs).reports = m.reports ∧ (m.linkFetched p a bs).pending = m.pending := by
  unfold State.linkFetched
  try dsimp only
  (repeat' split) <;> simp

@[simp] theorem State.issueRow_frame (p : PortId) :
    (m.issueRow p).ctl = m.ctl ∧ (m.issueRow p).time = m.time ∧ (m.issueRow p).ep = m.ep ∧
    (m.issueRow p).notice = m.notice ∧ (m.issueRow p).req = m.req ∧ (m.issueRow p).bx = m.bx ∧
    (m.issueRow p).pub = m.pub ∧ (m.issueRow p).streams = m.streams ∧ (m.issueRow p).capture = m.capture ∧
    (m.issueRow p).walkers = m.walkers ∧ (m.issueRow p).mem = m.mem ∧ (m.issueRow p).out = m.out ∧
    (m.issueRow p).reports = m.reports ∧ (m.issueRow p).pending = m.pending := by
  unfold State.issueRow
  try dsimp only
  (repeat' split) <;> simp

@[simp] theorem State.dropScan_frame (p : PortId) :
    (m.dropScan p).ctl = m.ctl ∧ (m.dropScan p).time = m.time ∧ (m.dropScan p).ep = m.ep ∧
    (m.dropScan p).notice = m.notice ∧ (m.dropScan p).req = m.req ∧ (m.dropScan p).bx = m.bx ∧
    (m.dropScan p).pub = m.pub ∧ (m.dropScan p).streams = m.streams ∧ (m.dropScan p).capture = m.capture ∧
    (m.dropScan p).walkers = m.walkers ∧ (m.dropScan p).mem = m.mem ∧ (m.dropScan p).out = m.out ∧
    (m.dropScan p).reports = m.reports ∧ (m.dropScan p).pending = m.pending := by
  unfold State.dropScan
  try dsimp only
  (repeat' split) <;> simp

@[simp] theorem State.beginFrame_frame (p : PortId) (f : ShownFrame) :
    (m.beginFrame p f).ctl = m.ctl ∧ (m.beginFrame p f).time = m.time ∧ (m.beginFrame p f).ep = m.ep ∧
    (m.beginFrame p f).notice = m.notice ∧ (m.beginFrame p f).req = m.req ∧ (m.beginFrame p f).bx = m.bx ∧
    (m.beginFrame p f).pub = m.pub ∧ (m.beginFrame p f).streams = m.streams ∧
    (m.beginFrame p f).capture = m.capture ∧ (m.beginFrame p f).walkers = m.walkers ∧
    (m.beginFrame p f).mem = m.mem ∧ (m.beginFrame p f).out = m.out ∧ (m.beginFrame p f).reports = m.reports ∧
    (m.beginFrame p f).pending = m.pending := by
  unfold State.beginFrame
  try dsimp only
  (repeat' split) <;> simp

@[simp] theorem State.reportWaiting_frame (w : Option WaitingRequest) (x y : Answer) :
    (m.reportWaiting w x y).ctl = m.ctl ∧ (m.reportWaiting w x y).time = m.time ∧
    (m.reportWaiting w x y).ep = m.ep ∧ (m.reportWaiting w x y).notice = m.notice ∧
    (m.reportWaiting w x y).bx = m.bx ∧ (m.reportWaiting w x y).pub = m.pub ∧
    (m.reportWaiting w x y).streams = m.streams ∧ (m.reportWaiting w x y).capture = m.capture ∧
    (m.reportWaiting w x y).walkers = m.walkers ∧ (m.reportWaiting w x y).ports = m.ports ∧
    (m.reportWaiting w x y).mem = m.mem ∧ (m.reportWaiting w x y).out = m.out ∧
    (m.reportWaiting w x y).reports = m.reports ∧ (m.reportWaiting w x y).pending = m.pending := by
  unfold State.reportWaiting
  try dsimp only
  (repeat' split) <;> simp

@[simp] theorem State.closePort_frame (p : PortId) (x : Answer) :
    (m.closePort p x).ctl = m.ctl ∧ (m.closePort p x).time = m.time ∧ (m.closePort p x).ep = m.ep ∧
    (m.closePort p x).notice = m.notice ∧ (m.closePort p x).pub = m.pub ∧ (m.closePort p x).streams = m.streams ∧
    (m.closePort p x).capture = m.capture ∧ (m.closePort p x).mem = m.mem ∧ (m.closePort p x).out = m.out ∧
    (m.closePort p x).reports = m.reports ∧ (m.closePort p x).pending = m.pending := by
  unfold State.closePort
  try dsimp only
  (repeat' split) <;> simp

@[simp] theorem State.makeCurrent_frame (p : PortId) (a : Word) (c : Cue) :
    (m.makeCurrent p a c).ctl = m.ctl ∧ (m.makeCurrent p a c).time = m.time ∧ (m.makeCurrent p a c).ep = m.ep ∧
    (m.makeCurrent p a c).notice = m.notice ∧ (m.makeCurrent p a c).req = m.req ∧ (m.makeCurrent p a c).bx = m.bx ∧
    (m.makeCurrent p a c).pub = m.pub ∧ (m.makeCurrent p a c).streams = m.streams ∧
    (m.makeCurrent p a c).capture = m.capture ∧ (m.makeCurrent p a c).mem = m.mem ∧
    (m.makeCurrent p a c).out = m.out ∧ (m.makeCurrent p a c).reports = m.reports ∧
    (m.makeCurrent p a c).pending = m.pending := by
  unfold State.makeCurrent
  try dsimp only
  (repeat' split) <;> simp

@[simp] theorem State.takeHead_frame (p : PortId) (a : Word) (c : Cue) :
    (m.takeHead p a c).ctl = m.ctl ∧ (m.takeHead p a c).time = m.time ∧ (m.takeHead p a c).ep = m.ep ∧
    (m.takeHead p a c).notice = m.notice ∧ (m.takeHead p a c).bx = m.bx ∧ (m.takeHead p a c).pub = m.pub ∧
    (m.takeHead p a c).streams = m.streams ∧ (m.takeHead p a c).capture = m.capture ∧
    (m.takeHead p a c).mem = m.mem ∧ (m.takeHead p a c).out = m.out ∧ (m.takeHead p a c).reports = m.reports ∧
    (m.takeHead p a c).pending = m.pending := by
  unfold State.takeHead
  try dsimp only
  (repeat' split) <;> simp

@[simp] theorem State.stall_frame (p : PortId) (a : Word) :
    (m.stall p a).ctl = m.ctl ∧ (m.stall p a).time = m.time ∧ (m.stall p a).ep = m.ep ∧
    (m.stall p a).notice = m.notice ∧ (m.stall p a).req = m.req ∧ (m.stall p a).bx = m.bx ∧
    (m.stall p a).pub = m.pub ∧ (m.stall p a).streams = m.streams ∧ (m.stall p a).capture = m.capture ∧
    (m.stall p a).mem = m.mem ∧ (m.stall p a).out = m.out ∧ (m.stall p a).reports = m.reports ∧
    (m.stall p a).pending = m.pending ∧
    (m.stall p a).arb = m.arb := by
  unfold State.stall
  try dsimp only
  (repeat' split) <;> simp

@[simp] theorem State.endDwell_frame (p : PortId) :
    (m.endDwell p).ctl = m.ctl ∧ (m.endDwell p).time = m.time ∧ (m.endDwell p).ep = m.ep ∧
    (m.endDwell p).notice = m.notice ∧ (m.endDwell p).bx = m.bx ∧ (m.endDwell p).pub = m.pub ∧
    (m.endDwell p).streams = m.streams ∧ (m.endDwell p).capture = m.capture ∧ (m.endDwell p).mem = m.mem ∧
    (m.endDwell p).out = m.out ∧ (m.endDwell p).reports = m.reports ∧ (m.endDwell p).pending = m.pending := by
  unfold State.endDwell
  try dsimp only
  (repeat' split) <;> simp

@[simp] theorem State.advanceChain_frame (p : PortId) :
    (m.advanceChain p).ctl = m.ctl ∧ (m.advanceChain p).time = m.time ∧ (m.advanceChain p).ep = m.ep ∧
    (m.advanceChain p).notice = m.notice ∧ (m.advanceChain p).bx = m.bx ∧ (m.advanceChain p).pub = m.pub ∧
    (m.advanceChain p).streams = m.streams ∧ (m.advanceChain p).capture = m.capture ∧
    (m.advanceChain p).mem = m.mem ∧ (m.advanceChain p).out = m.out ∧ (m.advanceChain p).reports = m.reports ∧
    (m.advanceChain p).pending = m.pending := by
  unfold State.advanceChain
  try dsimp only
  (repeat' split) <;> simp

@[simp] theorem State.chainStep_frame (p : PortId) :
    (m.chainStep p).ctl = m.ctl ∧ (m.chainStep p).time = m.time ∧ (m.chainStep p).ep = m.ep ∧
    (m.chainStep p).notice = m.notice ∧ (m.chainStep p).bx = m.bx ∧ (m.chainStep p).pub = m.pub ∧
    (m.chainStep p).streams = m.streams ∧ (m.chainStep p).capture = m.capture ∧ (m.chainStep p).mem = m.mem ∧
    (m.chainStep p).out = m.out ∧ (m.chainStep p).reports = m.reports ∧ (m.chainStep p).pending = m.pending := by
  unfold State.chainStep
  try dsimp only
  (repeat' split) <;> simp

@[simp] theorem State.countShown_frame (p : PortId) (f : PortCounters → PortCounters) :
    (m.countShown p f).ctl = m.ctl ∧ (m.countShown p f).time = m.time ∧ (m.countShown p f).ep = m.ep ∧
    (m.countShown p f).notice = m.notice ∧ (m.countShown p f).req = m.req ∧ (m.countShown p f).bx = m.bx ∧
    (m.countShown p f).pub = m.pub ∧ (m.countShown p f).streams = m.streams ∧
    (m.countShown p f).capture = m.capture ∧ (m.countShown p f).walkers = m.walkers ∧
    (m.countShown p f).mem = m.mem ∧ (m.countShown p f).out = m.out ∧ (m.countShown p f).reports = m.reports ∧
    (m.countShown p f).pending = m.pending ∧
    (m.countShown p f).arb = m.arb := by
  unfold State.countShown
  try dsimp only
  (repeat' split) <;> simp

@[simp] theorem State.showFill_frame (p : PortId) (f : ShownFrame) :
    (m.showFill p f).ctl = m.ctl ∧ (m.showFill p f).time = m.time ∧ (m.showFill p f).ep = m.ep ∧
    (m.showFill p f).notice = m.notice ∧ (m.showFill p f).req = m.req ∧ (m.showFill p f).bx = m.bx ∧
    (m.showFill p f).pub = m.pub ∧ (m.showFill p f).streams = m.streams ∧ (m.showFill p f).capture = m.capture ∧
    (m.showFill p f).walkers = m.walkers ∧ (m.showFill p f).mem = m.mem ∧ (m.showFill p f).out = m.out ∧
    (m.showFill p f).reports = m.reports ∧ (m.showFill p f).pending = m.pending := by
  unfold State.showFill
  try dsimp only
  (repeat' split) <;> simp

@[simp] theorem State.showAnswer_frame (p : PortId) (c : Colour) (a : ClaimAnswer) :
    (m.showAnswer p c a).ctl = m.ctl ∧ (m.showAnswer p c a).time = m.time ∧ (m.showAnswer p c a).ep = m.ep ∧
    (m.showAnswer p c a).notice = m.notice ∧ (m.showAnswer p c a).req = m.req ∧ (m.showAnswer p c a).bx = m.bx ∧
    (m.showAnswer p c a).pub = m.pub ∧ (m.showAnswer p c a).streams = m.streams ∧
    (m.showAnswer p c a).capture = m.capture ∧ (m.showAnswer p c a).walkers = m.walkers ∧
    (m.showAnswer p c a).mem = m.mem ∧ (m.showAnswer p c a).out = m.out ∧ (m.showAnswer p c a).reports = m.reports ∧
    (m.showAnswer p c a).pending = m.pending := by
  unfold State.showAnswer
  try dsimp only
  (repeat' split) <;> simp

@[simp] theorem State.chooseFrame_frame (p : PortId) :
    (m.chooseFrame p).ctl = m.ctl ∧ (m.chooseFrame p).time = m.time ∧ (m.chooseFrame p).ep = m.ep ∧
    (m.chooseFrame p).notice = m.notice ∧ (m.chooseFrame p).req = m.req ∧ (m.chooseFrame p).pub = m.pub ∧
    (m.chooseFrame p).streams = m.streams ∧ (m.chooseFrame p).capture = m.capture ∧
    (m.chooseFrame p).walkers = m.walkers ∧ (m.chooseFrame p).mem = m.mem ∧ (m.chooseFrame p).out = m.out ∧
    (m.chooseFrame p).reports = m.reports ∧ (m.chooseFrame p).pending = m.pending := by
  unfold State.chooseFrame
  try dsimp only
  (repeat' split) <;> simp

@[simp] theorem State.showingFrame_frame (p : PortId) :
    (m.showingFrame p).ctl = m.ctl ∧ (m.showingFrame p).time = m.time ∧ (m.showingFrame p).ep = m.ep ∧
    (m.showingFrame p).notice = m.notice ∧ (m.showingFrame p).pub = m.pub ∧ (m.showingFrame p).streams = m.streams ∧
    (m.showingFrame p).capture = m.capture ∧ (m.showingFrame p).mem = m.mem ∧ (m.showingFrame p).out = m.out ∧
    (m.showingFrame p).reports = m.reports ∧ (m.showingFrame p).pending = m.pending := by
  unfold State.showingFrame
  try dsimp only
  (repeat' split) <;> simp

@[simp] theorem State.startingFrame_frame (p : PortId) :
    (m.startingFrame p).ctl = m.ctl ∧ (m.startingFrame p).time = m.time ∧ (m.startingFrame p).ep = m.ep ∧
    (m.startingFrame p).notice = m.notice ∧ (m.startingFrame p).pub = m.pub ∧
    (m.startingFrame p).streams = m.streams ∧ (m.startingFrame p).capture = m.capture ∧
    (m.startingFrame p).mem = m.mem ∧ (m.startingFrame p).out = m.out ∧ (m.startingFrame p).reports = m.reports ∧
    (m.startingFrame p).pending = m.pending := by
  unfold State.startingFrame
  try dsimp only
  (repeat' split) <;> simp

@[simp] theorem State.headReady_frame (p : PortId) (a : Word) (c : Cue) :
    (m.headReady p a c).ctl = m.ctl ∧ (m.headReady p a c).time = m.time ∧ (m.headReady p a c).ep = m.ep ∧
    (m.headReady p a c).notice = m.notice ∧ (m.headReady p a c).req = m.req ∧ (m.headReady p a c).bx = m.bx ∧
    (m.headReady p a c).pub = m.pub ∧ (m.headReady p a c).streams = m.streams ∧
    (m.headReady p a c).capture = m.capture ∧ (m.headReady p a c).ports = m.ports ∧
    (m.headReady p a c).mem = m.mem ∧ (m.headReady p a c).out = m.out ∧ (m.headReady p a c).reports = m.reports ∧
    (m.headReady p a c).pending = m.pending ∧
    (m.headReady p a c).arb = m.arb := by
  unfold State.headReady
  try dsimp only
  (repeat' split) <;> simp

@[simp] theorem State.startHeadBad_frame (p : PortId) (a : Word) :
    (m.startHeadBad p a).ctl = m.ctl ∧ (m.startHeadBad p a).time = m.time ∧ (m.startHeadBad p a).ep = m.ep ∧
    (m.startHeadBad p a).notice = m.notice ∧ (m.startHeadBad p a).pub = m.pub ∧
    (m.startHeadBad p a).streams = m.streams ∧ (m.startHeadBad p a).capture = m.capture ∧
    (m.startHeadBad p a).mem = m.mem ∧ (m.startHeadBad p a).out = m.out ∧ (m.startHeadBad p a).reports = m.reports ∧
    (m.startHeadBad p a).pending = m.pending := by
  unfold State.startHeadBad
  try dsimp only
  (repeat' split) <;> simp

@[simp] theorem State.spliceHeadBad_frame (p : PortId) :
    (m.spliceHeadBad p).ctl = m.ctl ∧ (m.spliceHeadBad p).time = m.time ∧ (m.spliceHeadBad p).ep = m.ep ∧
    (m.spliceHeadBad p).notice = m.notice ∧ (m.spliceHeadBad p).bx = m.bx ∧ (m.spliceHeadBad p).pub = m.pub ∧
    (m.spliceHeadBad p).streams = m.streams ∧ (m.spliceHeadBad p).capture = m.capture ∧
    (m.spliceHeadBad p).mem = m.mem ∧ (m.spliceHeadBad p).out = m.out ∧ (m.spliceHeadBad p).reports = m.reports ∧
    (m.spliceHeadBad p).pending = m.pending := by
  unfold State.spliceHeadBad
  try dsimp only
  (repeat' split) <;> simp

@[simp] theorem State.acceptStart_frame (p : PortId) (n : SlotId) (w h t head : Word) :
    (m.acceptStart p n w h t head).ctl = m.ctl ∧ (m.acceptStart p n w h t head).time = m.time ∧
    (m.acceptStart p n w h t head).ep = m.ep ∧ (m.acceptStart p n w h t head).notice = m.notice ∧
    (m.acceptStart p n w h t head).req = m.req ∧ (m.acceptStart p n w h t head).bx = m.bx ∧
    (m.acceptStart p n w h t head).pub = m.pub ∧ (m.acceptStart p n w h t head).streams = m.streams ∧
    (m.acceptStart p n w h t head).capture = m.capture ∧ (m.acceptStart p n w h t head).mem = m.mem ∧
    (m.acceptStart p n w h t head).out = m.out ∧ (m.acceptStart p n w h t head).reports = m.reports ∧
    (m.acceptStart p n w h t head).pending = m.pending := by
  unfold State.acceptStart
  try dsimp only
  (repeat' split) <;> simp

@[simp] theorem State.haltPort_frame (p : PortId) (q : Port) :
    (m.haltPort p q).ctl = m.ctl ∧ (m.haltPort p q).time = m.time ∧ (m.haltPort p q).ep = m.ep ∧
    (m.haltPort p q).notice = m.notice ∧ (m.haltPort p q).pub = m.pub ∧ (m.haltPort p q).streams = m.streams ∧
    (m.haltPort p q).capture = m.capture ∧ (m.haltPort p q).mem = m.mem ∧ (m.haltPort p q).out = m.out ∧
    (m.haltPort p q).reports = m.reports ∧ (m.haltPort p q).pending = m.pending := by
  unfold State.haltPort
  try dsimp only
  (repeat' split) <;> simp

@[simp] theorem State.freeGranted_frame (s : StreamId) (r : Nat) :
    (m.freeGranted s r).ctl = m.ctl ∧ (m.freeGranted s r).time = m.time ∧ (m.freeGranted s r).ep = m.ep ∧
    (m.freeGranted s r).notice = m.notice ∧ (m.freeGranted s r).req = m.req ∧ (m.freeGranted s r).bx = m.bx ∧
    (m.freeGranted s r).pub = m.pub ∧ (m.freeGranted s r).streams = m.streams ∧
    (m.freeGranted s r).walkers = m.walkers ∧ (m.freeGranted s r).ports = m.ports ∧
    (m.freeGranted s r).mem = m.mem ∧ (m.freeGranted s r).out = m.out ∧ (m.freeGranted s r).reports = m.reports ∧
    (m.freeGranted s r).pending = m.pending ∧
    (m.freeGranted s r).arb = m.arb := by
  unfold State.freeGranted
  try dsimp only
  (repeat' split) <;> simp

@[simp] theorem State.granted_frame (c : ClientId) (b : Burst) :
    (m.granted c b).ctl = m.ctl ∧ (m.granted c b).time = m.time ∧ (m.granted c b).req = m.req ∧
    (m.granted c b).bx = m.bx ∧ (m.granted c b).pub = m.pub ∧ (m.granted c b).streams = m.streams ∧
    (m.granted c b).walkers = m.walkers ∧ (m.granted c b).ports = m.ports ∧ (m.granted c b).mem = m.mem ∧
    (m.granted c b).out = m.out ∧ (m.granted c b).reports = m.reports ∧ (m.granted c b).pending = m.pending ∧
    (m.granted c b).arb = m.arb := by
  unfold State.granted
  try dsimp only
  (repeat' split) <;> simp

@[simp] theorem State.enterLoading_frame :
    (m.enterLoading).time = m.time ∧ (m.enterLoading).ep = m.ep ∧ (m.enterLoading).notice = m.notice ∧
    (m.enterLoading).req = m.req ∧ (m.enterLoading).bx = m.bx ∧ (m.enterLoading).pub = m.pub ∧
    (m.enterLoading).streams = m.streams ∧ (m.enterLoading).capture = m.capture ∧
    (m.enterLoading).walkers = m.walkers ∧ (m.enterLoading).ports = m.ports ∧ (m.enterLoading).mem = m.mem ∧
    (m.enterLoading).out = m.out ∧ (m.enterLoading).reports = m.reports ∧ (m.enterLoading).pending = m.pending ∧
    (m.enterLoading).arb = m.arb := by
  unfold State.enterLoading
  try dsimp only
  (repeat' split) <;> simp

@[simp] theorem State.haltRequests_frame :
    (m.haltRequests).ctl = m.ctl ∧ (m.haltRequests).time = m.time ∧ (m.haltRequests).ep = m.ep ∧
    (m.haltRequests).notice = m.notice ∧ (m.haltRequests).bx = m.bx ∧ (m.haltRequests).pub = m.pub ∧
    (m.haltRequests).capture = m.capture ∧ (m.haltRequests).walkers = m.walkers ∧ (m.haltRequests).mem = m.mem ∧
    (m.haltRequests).out = m.out ∧ (m.haltRequests).reports = m.reports ∧ (m.haltRequests).pending = m.pending := by
  unfold State.haltRequests
  try dsimp only
  (repeat' split) <;> simp

@[simp] theorem State.haltStreams_frame :
    (m.haltStreams).ctl = m.ctl ∧ (m.haltStreams).time = m.time ∧ (m.haltStreams).ep = m.ep ∧
    (m.haltStreams).notice = m.notice ∧ (m.haltStreams).walkers = m.walkers ∧ (m.haltStreams).ports = m.ports ∧
    (m.haltStreams).mem = m.mem ∧ (m.haltStreams).out = m.out ∧ (m.haltStreams).pending = m.pending := by
  have h := foldl_keeps (State.haltStream)
    (fun x : State => (x.ctl, x.time, x.ep, x.notice, x.walkers, x.ports, x.mem, x.out, x.pending))
    (fun _ _ => by simp) allStreams m
  simpa [State.haltStreams] using h

@[simp] theorem State.haltPorts_frame (v : Vector Port 4) :
    (m.haltPorts v).ctl = m.ctl ∧ (m.haltPorts v).time = m.time ∧ (m.haltPorts v).ep = m.ep ∧
    (m.haltPorts v).notice = m.notice ∧ (m.haltPorts v).pub = m.pub ∧ (m.haltPorts v).streams = m.streams ∧
    (m.haltPorts v).capture = m.capture ∧ (m.haltPorts v).mem = m.mem ∧ (m.haltPorts v).out = m.out ∧
    (m.haltPorts v).reports = m.reports ∧ (m.haltPorts v).pending = m.pending := by
  have h := foldl_keeps (fun (m : State) (p : PortId) => m.haltPort p v[p])
    (fun x : State => (x.ctl, x.time, x.ep, x.notice, x.pub, x.streams, x.capture, x.mem, x.out, x.reports, x.pending))
    (fun _ _ => by simp) allPorts m
  simpa [State.haltPorts] using h

@[simp] theorem State.enterStopping_frame :
    (m.enterStopping).time = m.time ∧ (m.enterStopping).ep = m.ep ∧ (m.enterStopping).notice = m.notice ∧
    (m.enterStopping).mem = m.mem ∧ (m.enterStopping).out = m.out ∧ (m.enterStopping).pending = m.pending := by
  unfold State.enterStopping
  try dsimp only
  (repeat' split) <;> simp

@[simp] theorem State.setRun_frame (r : Bool) :
    (m.setRun r).time = m.time ∧ (m.setRun r).notice = m.notice ∧ (m.setRun r).mem = m.mem ∧
    (m.setRun r).out = m.out ∧ (m.setRun r).pending = m.pending := by
  unfold State.setRun
  try dsimp only
  (repeat' split) <;> simp

@[simp] theorem State.latchTime_frame :
    (m.latchTime).ctl = m.ctl ∧ (m.latchTime).ep = m.ep ∧ (m.latchTime).notice = m.notice ∧
    (m.latchTime).req = m.req ∧ (m.latchTime).bx = m.bx ∧ (m.latchTime).pub = m.pub ∧
    (m.latchTime).streams = m.streams ∧ (m.latchTime).capture = m.capture ∧ (m.latchTime).walkers = m.walkers ∧
    (m.latchTime).ports = m.ports ∧ (m.latchTime).mem = m.mem ∧ (m.latchTime).out = m.out ∧
    (m.latchTime).reports = m.reports ∧ (m.latchTime).pending = m.pending ∧ (m.latchTime).arb = m.arb := by
  unfold State.latchTime
  try dsimp only
  (repeat' split) <;> simp

@[simp] theorem State.enterFaulted_frame (c : FaultCause) :
    (m.enterFaulted c).time = m.time ∧ (m.enterFaulted c).ep = m.ep ∧ (m.enterFaulted c).req = m.req ∧
    (m.enterFaulted c).bx = m.bx ∧ (m.enterFaulted c).pub = m.pub ∧ (m.enterFaulted c).streams = m.streams ∧
    (m.enterFaulted c).capture = m.capture ∧ (m.enterFaulted c).walkers = m.walkers ∧
    (m.enterFaulted c).ports = m.ports ∧ (m.enterFaulted c).mem = m.mem ∧ (m.enterFaulted c).reports = m.reports ∧
    (m.enterFaulted c).pending = m.pending := by
  unfold State.enterFaulted
  try dsimp only
  (repeat' split) <;> simp

/-- With no placement on its way none arrives. -/
theorem State.placeOffer_none {s : StreamId} (h : (m.publish s).offer = none) : m.placeOffer s = m := by
  simp [State.placeOffer, h]

/-- A placement that is not late reaches the bank exchange at once. -/
@[simp] theorem State.askPlacement_now (s : StreamId) (i : BankIx) : m.askPlacement s i false = m.lend s i := by
  simp [State.askPlacement]

/-- Whatever is read, the register window's state changes in the latch alone. -/
theorem State.readRegister_state (off size : Nat) :
    (m.readRegister off size).1 = if readsTimeLo off size = true then m.latchTime else m := rfl

/-- A read returns as many bytes as it asks for. -/
@[simp] theorem State.readRegister_length (off size : Nat) : (m.readRegister off size).2.length = size := by
  simp [State.readRegister, State.readBytes]

end Sys2Proof.Machine
end

