-- ==== Sys2Proof/Laws/Capture.lean ====
section
/-! SUPPORT. What a presented frame start does to the events that wait at a capture port (R23). -/

namespace Sys2Proof.Machine

variable (m : State)

/-- An operation that leaves the capture ports alone leaves each one. -/
theorem State.cport_eq {m n : State} (h : m.capture = n.capture) (s : StreamId) : m.cport s = n.cport s := by
  simp only [State.cport, h]
/-- An operation that leaves the streams alone leaves each one. -/
theorem State.stream_eq {m n : State} (h : m.streams = n.streams) (s : StreamId) : m.stream s = n.stream s := by
  simp only [State.stream, h]

/-- A break leaves what waits at the capture port, and the stream's state, as they are. -/
theorem State.breakFrame_waits (s : StreamId) (i : BankIx) (c : BreakCause) :
    ((m.breakFrame s i c).cport s).waiting = (m.cport s).waiting
    ∧ ((m.breakFrame s i c).cport s).openLine = (m.cport s).abandonLine.openLine
    ∧ ((m.breakFrame s i c).stream s).state = (m.stream s).state := by
  have settle : ∀ n : State, (n.settleFreeze s).cport s = n.cport s ∧ ((n.settleFreeze s).stream s).state = (n.stream s).state := by
    intro n
    refine ⟨State.cport_eq (by simp) s, ?_⟩
    unfold State.settleFreeze
    split
    · rw [State.stream_modStream_self]; rw [State.stream_eq (n := n) (by simp)]
    · rfl
  unfold State.breakFrame
  dsimp only
  split <;> simp [settle, State.dropLines, CapturePort.emptied, CapturePort.abandonLine]

/-- The classification of a frame leaves the stream's state (R32). -/
theorem State.classify_state (s : StreamId) (d : Dword) : ((m.classify s d).stream s).state = (m.stream s).state := by
  unfold State.classify
  dsimp only
  (repeat' split) <;> simp

/-- The arrival of a placement leaves the stream's state (R52). -/
theorem State.placeOffer_state (s : StreamId) : ((m.placeOffer s).stream s).state = (m.stream s).state := by
  unfold State.placeOffer
  split
  · rfl
  · unfold State.lend
    split
    · rw [State.stream_eq (n := m) (by simp)]
    · simp [State.missPublish]

/-- A counted frame start makes the stream LIVE and leaves what waits (R31). -/
theorem State.countFrame_waits (s : StreamId) (d : Dword) :
    ((m.countFrame s d).cport s).waiting = (m.cport s).waiting
    ∧ ((m.cport s).openLine = none → ((m.countFrame s d).cport s).openLine = none)
    ∧ ((m.countFrame s d).stream s).state = .live := by
  unfold State.countFrame
  dsimp only
  have keep : ∀ n : State, (n.classify s d).cport s = n.cport s := fun n => State.cport_eq (by simp) s
  split
  · simp [keep, State.classify_state]
  · refine ⟨?_, ?_, ?_⟩ <;> simp [keep, State.classify_state, State.breakFrame_waits, CapturePort.abandonLine]

/-- A frame start presented to a stream that is not OFF leaves what waits at its port, or takes the stream to OFF with
nothing waiting (R23, R31, R36); no line is being received after it if none was before. -/
theorem State.presentFrameStart_waits (s : StreamId) (d : Dword) (h : m.isOff s = false) :
    (((m.presentFrameStart s d).isOff s = false ∧ ((m.presentFrameStart s d).cport s).waiting = (m.cport s).waiting)
      ∨ ((m.presentFrameStart s d).isOff s = true ∧ ((m.presentFrameStart s d).cport s).waiting = []))
    ∧ ((m.cport s).openLine = none → ((m.presentFrameStart s d).cport s).openLine = none) := by
  have offer : ∀ n : State, (n.placeOffer s).cport s = n.cport s := fun n => State.cport_eq (by simp) s
  have note : ∀ (n : State) (t : Stream), (n.noteStream t s).cport s = n.cport s := fun n t => State.cport_eq (by simp) s
  have notes : ∀ (n : State) (t : Stream), (n.noteStream t s).stream s = n.stream s := fun n t => State.stream_eq (by simp) s
  have held : ∀ (n : State) (k : Option SlotId) (a : Answer), (n.reportHeld k a).cport s = n.cport s :=
    fun n k a => State.cport_eq (by simp) s
  have live : ∀ n : State, (n.isOff s = false) ↔ (n.stream s).state ≠ .off := by
    intro n; simp [State.isOff]
  unfold State.presentFrameStart
  dsimp only
  split
  · simp_all
  · split
    · simp [h]
    · rename_i i _
      obtain ⟨w, o, -⟩ := m.breakFrame_waits s i .drainCut
      refine ⟨.inr ⟨?_, ?_⟩, ?_⟩
      · unfold State.isOff; rw [notes]; simp [State.enterOff, State.dropLines]
      · rw [note]; simp [State.enterOff]
      · rw [note]
        intro none
        simp [State.enterOff, State.dropLines, CapturePort.emptied, CapturePort.abandonLine, held, o, none]
  all_goals
    obtain ⟨w, o, st⟩ := m.countFrame_waits s d
    refine ⟨.inl ⟨?_, ?_⟩, ?_⟩
    · rw [live, State.placeOffer_state, notes, st]; decide
    · rw [offer, note, w]
    · rw [offer, note]; exact o

/-- The frame start at the front of what waits is taken off it when it is presented (R23). -/
theorem State.presentWaitingStart_waits (s : StreamId) (x : Dword) (rest : List LinkEvent)
    (hw : (m.cport s).waiting = .frameStart x :: rest) (h : m.isOff s = false) :
    (((m.presentWaitingStart s).isOff s = false ∧ ((m.presentWaitingStart s).cport s).waiting = rest)
      ∨ ((m.presentWaitingStart s).isOff s = true ∧ ((m.presentWaitingStart s).cport s).waiting = []))
    ∧ ((m.cport s).openLine = none → ((m.presentWaitingStart s).cport s).openLine = none) := by
  have key := (m.modCapture s fun q => { q with waiting := rest }).presentFrameStart_waits s x (by simpa using h)
  simp only [State.cport_modCapture_self] at key
  simpa only [State.presentWaitingStart, hw] using key

/-- With nothing waiting no frame start is presented. -/
theorem State.presentWaitingStart_of_nil (s : StreamId) (hw : (m.cport s).waiting = []) : m.presentWaitingStart s = m := by
  simp [State.presentWaitingStart, hw]

/-- With nothing waiting no frame start is presented, however often. -/
theorem State.foldl_presentWaitingStart_of_nil (s : StreamId) (l : List LinkEvent) (hw : (m.cport s).waiting = []) :
    l.foldl (fun m _ => m.presentWaitingStart s) m = m := by
  induction l with
  | nil => rfl
  | cons _ l ih => rw [List.foldl_cons, m.presentWaitingStart_of_nil s hw, ih]

/-- Frame starts that wait are presented one after the other (R23). -/
theorem State.presentStarts_cons (s : StreamId) (x : Dword) (rest : List LinkEvent)
    (hw : (m.cport s).waiting = .frameStart x :: rest) (hr : .frameEnd ∉ rest) (h : m.isOff s = false) :
    m.presentStarts s = (m.presentWaitingStart s).presentStarts s := by
  have all : m.presentStarts s = rest.foldl (fun m _ => m.presentWaitingStart s) (m.presentWaitingStart s) := by
    simp [State.presentStarts, hw, hr, h]
  obtain ⟨⟨off, w⟩ | ⟨off, w⟩, -⟩ := m.presentWaitingStart_waits s x rest hw h
  · rw [all]; simp [State.presentStarts, off, w, hr]
  · rw [all, State.foldl_presentWaitingStart_of_nil _ s rest w]; simp [State.presentStarts, off]

end Sys2Proof.Machine
end

