-- ==== Sys2Proof/Laws/Memory.lean ====
section
/-! SUPPORT. Exchange memory: every operation keeps the canonical form, and a byte reads as it was last written. -/

namespace Sys2Proof.Machine.Memory

/-- Every address of a list is above a bound. -/
def above (a : Nat) (m : Memory) : Bool := m.all fun c => decide (a < c.1)

theorem wf_cons (a : Nat) (v : Byte) (m : Memory) :
    wf ((a, v) :: m) = true ↔ v ≠ Config.unwrittenByte ∧ above a m = true ∧ wf m = true := by
  simp [wf, above, and_assoc]

theorem above_trans {a b : Nat} {m : Memory} (h : a < b) (hb : above b m = true) : above a m = true := by
  simp only [above, List.all_eq_true, decide_eq_true_eq] at *
  intro c hc
  exact Nat.lt_trans h (hb c hc)

theorem read_of_above {a x : Nat} {m : Memory} (h : above a m = true) (hx : x ≤ a) :
    read m x = Config.unwrittenByte := by
  induction m with
  | nil => rfl
  | cons c m ih =>
    obtain ⟨b, w⟩ := c
    simp only [above, List.all_cons, Bool.and_eq_true, decide_eq_true_eq] at h
    have : x ≠ b := by omega
    simp only [read, this, if_false]
    exact ih h.2

theorem above_write {a b : Nat} {m : Memory} {v : Byte} (h : above a m = true) (hb : a < b) :
    above a (write m b v) = true := by
  induction m with
  | nil =>
    simp only [write]
    split <;> simp [above, hb]
  | cons c m ih =>
    obtain ⟨x, w⟩ := c
    simp only [above, List.all_cons, Bool.and_eq_true, decide_eq_true_eq] at h
    simp only [write]
    split
    · split <;> simp [above, hb, h.1, h.2] <;> simpa [above] using h.2
    · split
      · split
        · simpa [above] using h.2
        · simp only [above, List.all_cons, Bool.and_eq_true, decide_eq_true_eq]
          exact ⟨h.1, h.2⟩
      · simp only [above, List.all_cons, Bool.and_eq_true, decide_eq_true_eq]
        exact ⟨h.1, ih h.2⟩

/-- A write of one byte keeps the canonical form. -/
theorem wf_write {m : Memory} (h : wf m = true) (a : Nat) (v : Byte) : wf (write m a v) = true := by
  induction m with
  | nil =>
    simp only [write]
    split <;> rename_i hv
    · rfl
    · simp [hv, wf]
  | cons c m ih =>
    obtain ⟨b, w⟩ := c
    obtain ⟨hw, hab, hm⟩ := (wf_cons b w m).1 h
    simp only [write]
    split <;> rename_i hlt
    · split <;> rename_i hv
      · exact h
      · refine (wf_cons _ _ _).2 ⟨hv, ?_, h⟩
        simp only [above, List.all_cons, Bool.and_eq_true, decide_eq_true_eq]
        exact ⟨hlt, above_trans hlt hab⟩
    · split <;> rename_i heq
      · split <;> rename_i hv
        · exact hm
        · exact (wf_cons _ _ _).2 ⟨hv, hab, hm⟩
      · exact (wf_cons _ _ _).2 ⟨hw, above_write hab (by omega), ih hm⟩

/-- Reading after a write of one byte. -/
theorem read_write {m : Memory} (h : wf m = true) (a x : Nat) (v : Byte) :
    read (write m a v) x = if x = a then v else read m x := by
  induction m with
  | nil =>
    simp only [write]
    split <;> rename_i hv <;> simp [read, hv]
  | cons c m ih =>
    obtain ⟨b, w⟩ := c
    obtain ⟨_, hab, hm⟩ := (wf_cons b w m).1 h
    simp only [write]
    split <;> rename_i hlt
    · split <;> rename_i hv
      · split <;> rename_i hx
        · subst hx
          have hne : x ≠ b := by omega
          simp only [read, hne, if_false, hv]
          exact read_of_above hab (by omega)
        · rfl
      · rfl
    · split <;> rename_i heq
      · subst heq
        split <;> rename_i hv
        · split <;> rename_i hx
          · subst hx
            rw [hv]
            exact read_of_above hab (Nat.le_refl _)
          · simp [read, hx]
        · simp [read]
          split <;> simp_all
      · have ih' := ih hm
        simp only [read, ih']
        split <;> rename_i hx
        · subst hx
          have : x ≠ a := fun e => heq e.symm
          simp [this]
        · rfl

/-- A write of bytes keeps the canonical form. -/
theorem wf_writeBytes {m : Memory} (h : wf m = true) (a : Nat) (bs : List Byte) : wf (writeBytes m a bs) = true := by
  induction bs generalizing m a with
  | nil => exact h
  | cons b bs ih => exact ih (wf_write h a b) (a + 1)

/-- Reading after a write of bytes: the byte written there, and every other byte as before. -/
theorem read_writeBytes {m : Memory} (h : wf m = true) (a x : Nat) (bs : List Byte) :
    read (writeBytes m a bs) x = if a ≤ x then (bs[x - a]?).getD (read m x) else read m x := by
  induction bs generalizing m a with
  | nil => simp [writeBytes]
  | cons b bs ih =>
    simp only [writeBytes]
    rw [ih (wf_write h a b) (a + 1), read_write h]
    by_cases h1 : a + 1 ≤ x
    · have e : x - a = (x - (a + 1)) + 1 := by omega
      have hne : x ≠ a := by omega
      have hle : a ≤ x := by omega
      simp [h1, hle, e, hne]
    · by_cases h2 : x = a
      · subst h2
        simp only [h1, if_false, if_true, Nat.le_refl, Nat.sub_self, List.getElem?_cons_zero, Option.getD_some]
      · have hle : ¬ a ≤ x := by omega
        simp [h1, h2, hle]

end Sys2Proof.Machine.Memory

namespace Sys2Proof.Machine

/-- Only a grant writes memory, and it keeps the canonical form. -/
theorem State.grantBurst_wf {m : State} (h : Memory.wf m.mem = true) (c : ClientId) (b : Burst) :
    Memory.wf (m.grantBurst c b).mem = true := by
  simp only [State.grantBurst, State.granted_frame]
  split
  · exact h
  · exact Memory.wf_writeBytes h _ _

end Sys2Proof.Machine
end

