-- ==== Sys2Proof/Laws/PerInstr.lean ====
section
/-! SUPPORT. The family `Wordless`: no word spells a command, since the opcode table gives its rows no bits; one lemma per
command. -/

namespace Sys2Proof.Laws

/-- No word of any length decodes to the command. -/
def Wordless.Statement (i : Instr) : Prop := ∀ nbits w : Nat, decodeTableWord nbits w ≠ some i

/-- The decoder spells no command, so no word spells this one. -/
theorem Wordless.all (i : Instr) : Wordless.Statement i := fun _ _ h => nomatch h

theorem Wordless.powerOnReset : Wordless.Statement .powerOnReset := Wordless.all _
theorem Wordless.funcReset (w : Word) : Wordless.Statement (.funcReset w) := Wordless.all _
theorem Wordless.pcieLinkReset : Wordless.Statement .pcieLinkReset := Wordless.all _
theorem Wordless.dramInitComplete : Wordless.Statement .dramInitComplete := Wordless.all _
theorem Wordless.run (w : Word) : Wordless.Statement (.run w) := Wordless.all _
theorem Wordless.dirbaseWrite (w : Word) : Wordless.Statement (.dirbaseWrite w) := Wordless.all _
theorem Wordless.nudge (w : Word) : Wordless.Statement (.nudge w) := Wordless.all _
theorem Wordless.noticePendingWrite (w : Word) : Wordless.Statement (.noticePendingWrite w) := Wordless.all _
theorem Wordless.noticeEnableWrite (w : Word) : Wordless.Statement (.noticeEnableWrite w) := Wordless.all _
theorem Wordless.timeLoRead (offset : Nat) (size : Nat) : Wordless.Statement (.timeLoRead offset size) := Wordless.all _
theorem Wordless.registerWriteIgnored (offset : Nat) (size : Nat) (v : Dword) : Wordless.Statement (.registerWriteIgnored offset size v) := Wordless.all _
theorem Wordless.vectorUnmask : Wordless.Statement .vectorUnmask := Wordless.all _
theorem Wordless.exchangeWindowAccess (a : WindowAccess) : Wordless.Statement (.exchangeWindowAccess a) := Wordless.all _
theorem Wordless.windowReadComplete : Wordless.Statement .windowReadComplete := Wordless.all _
theorem Wordless.nudgeTriggerRelease : Wordless.Statement .nudgeTriggerRelease := Wordless.all _
theorem Wordless.directoryReadIssue : Wordless.Statement .directoryReadIssue := Wordless.all _
theorem Wordless.burstGrant : Wordless.Statement .burstGrant := Wordless.all _
theorem Wordless.frameStart (f : FrameStart) : Wordless.Statement (.frameStart f) := Wordless.all _
theorem Wordless.lineStart (s : StreamId) (pixels : List Byte) : Wordless.Statement (.lineStart s pixels) := Wordless.all _
theorem Wordless.lineEnd (s : StreamId) : Wordless.Statement (.lineEnd s) := Wordless.all _
theorem Wordless.frameEndMarker (s : StreamId) : Wordless.Statement (.frameEndMarker s) := Wordless.all _
theorem Wordless.frameEnd (e : FrameEnd) : Wordless.Statement (.frameEnd e) := Wordless.all _
theorem Wordless.lossTimerExpiry (s : StreamId) : Wordless.Statement (.lossTimerExpiry s) := Wordless.all _
theorem Wordless.sweepTimerExpiry : Wordless.Statement .sweepTimerExpiry := Wordless.all _
theorem Wordless.returnTicketReadComplete : Wordless.Statement .returnTicketReadComplete := Wordless.all _
theorem Wordless.boardReadComplete : Wordless.Statement .boardReadComplete := Wordless.all _
theorem Wordless.badKind : Wordless.Statement .badKind := Wordless.all _
theorem Wordless.nop : Wordless.Statement .nop := Wordless.all _
theorem Wordless.adoptStream : Wordless.Statement .adoptStream := Wordless.all _
theorem Wordless.streamRecordReadComplete (s : StreamId) : Wordless.Statement (.streamRecordReadComplete s) := Wordless.all _
theorem Wordless.adoptionTakesEffect (s : StreamId) : Wordless.Statement (.adoptionTakesEffect s) := Wordless.all _
theorem Wordless.stopStream : Wordless.Statement .stopStream := Wordless.all _
theorem Wordless.holdStream : Wordless.Statement .holdStream := Wordless.all _
theorem Wordless.resumeStream : Wordless.Statement .resumeStream := Wordless.all _
theorem Wordless.queryStream : Wordless.Statement .queryStream := Wordless.all _
theorem Wordless.grab : Wordless.Statement .grab := Wordless.all _
theorem Wordless.startPort : Wordless.Statement .startPort := Wordless.all _
theorem Wordless.splice : Wordless.Statement .splice := Wordless.all _
theorem Wordless.stopPort : Wordless.Statement .stopPort := Wordless.all _
theorem Wordless.queryPort : Wordless.Statement .queryPort := Wordless.all _
theorem Wordless.answerWriteComplete : Wordless.Statement .answerWriteComplete := Wordless.all _
theorem Wordless.catalogWriteComplete : Wordless.Statement .catalogWriteComplete := Wordless.all _
theorem Wordless.streamStatusWriteComplete (s : StreamId) : Wordless.Statement (.streamStatusWriteComplete s) := Wordless.all _
theorem Wordless.portStatusWriteComplete (p : PortId) : Wordless.Statement (.portStatusWriteComplete p) := Wordless.all _
theorem Wordless.holdExpiry (s : StreamId) (i : BankIx) : Wordless.Statement (.holdExpiry s i) := Wordless.all _
theorem Wordless.outputFrameStart (p : PortId) : Wordless.Statement (.outputFrameStart p) := Wordless.all _
theorem Wordless.scanReadComplete (p : PortId) : Wordless.Statement (.scanReadComplete p) := Wordless.all _
theorem Wordless.lineUnderrun (p : PortId) : Wordless.Statement (.lineUnderrun p) := Wordless.all _
theorem Wordless.outputLineEnd (p : PortId) : Wordless.Statement (.outputLineEnd p) := Wordless.all _
theorem Wordless.fetchCompletion (p : PortId) : Wordless.Statement (.fetchCompletion p) := Wordless.all _
theorem Wordless.headFetchCompletion (p : PortId) : Wordless.Statement (.headFetchCompletion p) := Wordless.all _
theorem Wordless.discardedReadCompletion (p : PortId) : Wordless.Statement (.discardedReadCompletion p) := Wordless.all _
theorem Wordless.directoryReadComplete : Wordless.Statement .directoryReadComplete := Wordless.all _
theorem Wordless.statusInitComplete : Wordless.Statement .statusInitComplete := Wordless.all _
theorem Wordless.haltReclaim : Wordless.Statement .haltReclaim := Wordless.all _
theorem Wordless.haltComplete : Wordless.Statement .haltComplete := Wordless.all _
theorem Wordless.countRecordWriteComplete : Wordless.Statement .countRecordWriteComplete := Wordless.all _
theorem Wordless.vectorMask : Wordless.Statement .vectorMask := Wordless.all _
theorem Wordless.msiCapabilityChange (enabled : Bool) : Wordless.Statement (.msiCapabilityChange enabled) := Wordless.all _

end Sys2Proof.Laws
end

