-- ==== Sys2Proof/Tests/Slice0.lean ====
section
/-! SUPPORT. The model's own tests: an ill-formed term for each well-formedness check, what each command does on a small
state, and, for every statement with hypotheses, states and operands that meet them (`witness_<statement>`). -/

set_option Elab.async false

namespace Sys2Proof.Tests

open Sys2Proof Sys2Proof.Machine

/-! ## Well-formedness: each check refuses an ill-formed term -/

theorem test_wf_funcReset_without_bit1 : (Instr.funcReset 1).wellFormed = false := by decide
theorem test_wf_run_with_bit1 : (Instr.run 2).wellFormed = false := by decide
theorem test_wf_read_of_no_byte : (Instr.exchangeWindowAccess (.read 0 0)).wellFormed = false := by decide
theorem test_wf_read_past_window : (Instr.exchangeWindowAccess (.read 0x3FFFFFFF 2)).wellFormed = false := by decide
theorem test_wf_write_of_no_byte : (Instr.exchangeWindowAccess (.write 0 [])).wellFormed = false := by decide
theorem test_wf_write_past_window : (Instr.exchangeWindowAccess (.write 0x40000000 [1])).wellFormed = false := by decide
theorem test_wf_line_of_no_byte : (Instr.lineStart 0 []).wellFormed = false := by decide
theorem test_wf_write_of_a_word_is_not_ignored :
    [0x04, 0x0C, 0x10, 0x14, 0x18].all (fun off => !(Instr.registerWriteIgnored off 4 0).wellFormed) = true := by decide
theorem test_wf_write_of_two_words_is_not_ignored :
    (Instr.registerWriteIgnored 0x04 8 0).wellFormed = false ∧ (Instr.registerWriteIgnored 0x08 8 0).wellFormed = false := by
  decide
theorem test_wf_time_lo_read_outside :
    [(0x1C, 0), (0x1B, 1), (0x18, 4), (0x1F, 2), (0x20, 4), (0x14, 8), (0x1C, 3)].all
      (fun q => !(Instr.timeLoRead q.1 q.2).wellFormed) = true := by decide
theorem test_wf_accepts :
    [Instr.funcReset 3, .timeLoRead 0x1C 4, .timeLoRead 0x1E 2, .timeLoRead 0x18 8, .run 1, .exchangeWindowAccess (.read 0x3FFFFFFF 1), .exchangeWindowAccess (.write 0 [7]),
      .lineStart 7 [1, 2], .registerWriteIgnored 0x00 4 1, .registerWriteIgnored 0x04 2 1, .registerWriteIgnored 0x1C 8 1,
      .registerWriteIgnored 0x24 4 1].all (·.wellFormed) = true := by decide
theorem test_no_word_is_a_command : decodeTableWord 32 0 = none := by decide

/-! ## Small states -/

/-- The outcome is a next state of which `f` holds. -/
def gives (o : Host.Outcome State Fault Refusal) (f : State → Bool) : Bool :=
  match o with
  | .next t => f t
  | .fault _ | .refused _ => false

def dir0 : Directory := ⟨0x1000, 0x2000, 0x3000, 4, 0x4000, 0x5000, 8⟩
def cfg0 : StreamConfig := ⟨0x100000, 3, 16, 16, 64, .yc16, 1, .every, 0, 1, 100, 10, .fill⟩
def reset0 : State := State.reset
/-- A device in one of the five states, with a directory. -/
def device (d : DeviceState) : State :=
  { reset0 with ctl := ⟨d, .none, true, 0x1000, some dir0, .none⟩, arb := { reset0.arb with dramReady := true } }
def run0 : State := { device .running with req := { reset0.req with sweepTimer := some 1000 } }
/-- Stream 0 adopted, in a stream state. -/
def adopted (s : StreamState) : State :=
  { run0 with
    streams := run0.streams.set 0 { Stream.reset with
      state := s, config := some cfg0, seq := 5, lossTimer := if s = .lost then none else some 10000 }
    bx := { run0.bx with geometry := run0.bx.geometry.set 0 (some cfg0.geometry) } }
def withBank (i : BankIx) (b : Bank) (m : State) : State := { m with bx := m.bx.modBank 0 i fun _ => b }
def validBank (q : Dword) : Bank := { Bank.reset with state := .valid, seq := q, lines := 16 }
def fillBank : Bank := { Bank.reset with state := .filling, seq := 5 }
def heldBank (t : Half) : Bank :=
  { validBank 4 with hold := some ⟨t, some 500, .published⟩, catalog := .held, lastTicket := t }
def live0 : State := adopted .live
/-- Stream 0 with a frame FILLING in bank 0. -/
def filling (s : StreamState) : State :=
  (withBank 0 fillBank (adopted s)).modStream 0 fun t => { t with counters := { t.counters with arrived := 1 } }
/-- Stream 0 LIVE with a held bank. -/
def held0 : State :=
  { withBank 0 (heldBank 9) live0 with pub := { live0.pub with streams := live0.pub.streams.set 0 ⟨0, 1, none⟩ } }
def capture0 (f : CapturePort → CapturePort) (m : State) : State := m.modCapture 0 f
def stream0 (f : Stream → Stream) (m : State) : State := m.modStream 0 f
/-- A slot's request: kind, target, flags, args 0 to 3. -/
def slot (kind : Half) (target flags : Byte) (a b c d : Word) : Request := ⟨kind, target, flags, 7, #v[a, b, c, d, 0, 0]⟩
/-- A request of some kind for stream or port 0. -/
def plain (kind : Half) : Request := slot kind 0 0 0 0 0 0
/-- Slot 0 is on turn with a request. -/
def posted (r : Request) (m : State) : State :=
  { m with req := { m.req with sweep := .taking, nextSlot := 0, board := [⟨1, r, false⟩] } }
/-- Slot 3 holds a request that waits. -/
def waits (o : Owner) (m : State) : State :=
  { m with req := { m.req with inFlight := m.req.inFlight.set 3 (some ⟨plain 0x12, o, .waiting⟩) } }
/-- A client's one burst has been granted. -/
def grantedAt (c : ClientId) (p : Purpose) (data : List Byte) (m : State) : State :=
  { m with arb := m.arb.setClient c ⟨(m.client c).queue, [⟨⟨p, 0x2000, .read data.length⟩, data, [], false⟩]⟩ }
/-- A client has one burst queued. -/
def queued (c : ClientId) (b : Burst) (m : State) : State :=
  { m with arb := m.arb.setClient c ⟨[b], (m.client c).granted⟩ }
def cue0 : Cue := ⟨.stream 0, false, true, ⟨1, 2, 3⟩, 2, 9, none⟩
def frame0 : ClaimedBank := ⟨0, 0, 0x100000, 4, 0, 16, ⟨false, false⟩, 16, 16, 64, .yc16⟩
/-- Port 0 with its timer running, a current cue and a walker. -/
def portIn (s : PortState) (w : WalkerState) (m : State) : State :=
  { m with
    ports := m.ports.set 0 { Port.reset with
      state := s, raster := some ⟨64, 64⟩, framePeriod := some 20000, frameTimer := some 20000
      current := if s = .starting then none else some ⟨0x6000, cue0⟩, dwell := 1 }
    walkers := m.walkers.set 0 ⟨w, 0, .link, 0, false⟩ }
def port0 (f : Port → Port) (m : State) : State := m.modPort 0 f
/-- The same, the walker fetching from an address. -/
def portFetching (s : PortState) (a : Word) (o : Origin) (m : State) : State :=
  (portIn s .fetching m).modWalker 0 fun w => { w with fetchAddr := a, fetchOrigin := o }
/-- The placement of a hold on bank (0, `i`) is on its way. -/
def offering (i : BankIx) (m : State) : State := m.modPublish 0 fun q => { q with offer := some i }
def headReady : WalkerState := .ready ⟨0x6020, .head, some cue0⟩
def cueReady : WalkerState := .ready ⟨0x6040, .link, some cue0⟩
def badCueReady : WalkerState := .ready ⟨0x6060, .link, none⟩
/-- 32 bytes of a valid cue: background, dwell 2, link as given. -/
def cueData (source flags : Byte) (link : Word) : List Byte :=
  [0xC7, source, flags, 0, 16, 128, 128, 0, 2, 0, 9, 0] ++ leBytes 4 link.toNat ++ zeros 16
/-- The 64 bytes of a valid directory and of a valid stream record. -/
def dirData : List Byte :=
  leBytes 4 0x6E7A3430 ++ leBytes 4 1 ++ [0x2000, 0x3000, 4, 0x4000, 0x5000, 8].flatMap (leBytes 4) ++ zeros 32
def recordData : List Byte :=
  leBytes 4 0x100000 ++ [3, 1, 1, 0] ++ [16, 16, 64].flatMap (leBytes 2) ++ [1, 0, 1, 0] ++ [10, 100].flatMap (leBytes 2)
    ++ zeros 42

/-! ## One small test of each command -/

theorem test_powerOnReset : gives (exec .powerOnReset run0) (fun t => t == State.reset) = true := by decide +kernel
theorem test_funcReset :
    gives (exec (.funcReset 2) live0) (fun t => t.ctl == State.reset.ctl && t.arb.dramReady) = true := by decide +kernel
theorem test_pcieLinkReset :
    gives (exec .pcieLinkReset { live0 with mem := [(3, 4)] }) (fun t => t.mem == [(3, 4)] && t.isOff 0) = true := by
  decide +kernel
theorem test_dramInitComplete : gives (exec .dramInitComplete reset0) (·.arb.dramReady) = true := by decide +kernel
theorem test_run_in_halted : gives (exec (.run 1) reset0) (fun t => t.ctl.device == .loading) = true := by decide +kernel
theorem test_run_lowered_in_running :
    gives (exec (.run 0) (filling .live)) (fun t => (t.stream 0).state == .draining && t.isOff 1) = true := by decide +kernel
theorem test_dirbaseWrite :
    gives (exec (.dirbaseWrite 0xFFFFFFFF) reset0) (fun t => t.ctl.dirbase == 0x3FFFF000) = true := by decide +kernel
theorem test_nudge : gives (exec (.nudge 5) run0) (fun t => t.ep.heldNudges == [0]) = true := by decide +kernel
theorem test_noticePendingWrite :
    gives (exec (.noticePendingWrite 0x21) { reset0 with notice := { reset0.notice with pending := 0x23 } })
      (fun t => t.notice.pending == 2) = true := by decide +kernel
theorem test_noticeEnableWrite_asks_for_a_message :
    gives (exec (.noticeEnableWrite 0xFF)
        { reset0 with notice := { reset0.notice with pending := 1 }, ep := ⟨true, false, [], 0⟩ })
      (fun t => t.notice.enable == 0x3F && t.out.messages == 1) = true := by decide +kernel
theorem test_timeLoRead :
    gives (exec (.timeLoRead 0x1C 8) { reset0 with time := ⟨0x500000007, 0⟩ })
      (fun t => t.readWord 0x20 == 5 && t.out.timeRead == [7, 0, 0, 0, 5, 0, 0, 0]) = true := by decide +kernel
theorem test_registerWriteIgnored :
    gives (exec (.registerWriteIgnored 0x1C 4 1) reset0) (fun t => t == reset0) = true := by decide +kernel
theorem test_vectorUnmask_sends_what_is_owed :
    gives (exec .vectorUnmask { reset0 with
        notice := { reset0.notice with pending := 1, enable := 1, owed := true }, ep := ⟨true, true, [], 0⟩ })
      (fun t => t.out.messages == 1 && !t.notice.owed && !t.ep.vectorMasked) = true := by decide +kernel
theorem test_exchangeWindowAccess_splits :
    gives (exec (.exchangeWindowAccess (.read 0xFF 0x102)) reset0)
      (fun t => (t.client .window).queue.map (fun b => (b.addr, b.access.size)) == [(0xFF, 1), (0x100, 256), (0x200, 1)])
      = true := by decide +kernel
theorem test_window_write_then_read :
    gives (exec .burstGrant (queued .window ⟨.window, 0x100, .write [5, 0, 6]⟩ run0))
      (fun t => t.mem == [(0x100, 5), (0x102, 6)] && Memory.readBytes t.mem 0x100 3 == [5, 0, 6]) = true := by decide +kernel
theorem test_windowReadComplete :
    gives (exec .windowReadComplete (grantedAt .window .window [8, 9] run0))
      (fun t => t.out.windowRead == some (0x2000, [8, 9]) && (t.client .window).quiet) = true := by decide +kernel
theorem test_nudgeTriggerRelease :
    gives (exec .nudgeTriggerRelease { run0 with ep := { run0.ep with heldNudges := [0] } })
      (fun t => t.req.sweep == .board && (t.client requestClient).queue.length == 2) = true := by decide +kernel
theorem test_directoryReadIssue :
    gives (exec .directoryReadIssue { device .loading with ctl := { (device .loading).ctl with load := .toIssue } })
      (fun t => (t.client runControlClient).queue == [⟨.directoryRead, 0x1000, .read 64⟩]) = true := by decide +kernel
theorem test_frameStart :
    gives (exec (.frameStart ⟨0, false⟩) (adopted .seeking))
      (fun t => t.filling 0 == some 0 && (t.stream 0).state == .live && (t.bank 0 0).seq == 6) = true := by decide +kernel
theorem test_lineStart :
    gives (exec (.lineStart 0 (List.replicate 32 1)) (filling .live))
      (fun t => (t.cport 0).openLine == some ⟨16, some 0, false⟩) = true := by decide +kernel
theorem test_lineEnd :
    gives (exec (.lineEnd 0) (capture0 (fun q => { q with openLine := some ⟨17, none, false⟩ }) (filling .live)))
      (fun t => (t.stream 0).lineCount == 1 && (t.stream 0).lineFlags == ⟨true, false⟩) = true := by decide +kernel
theorem test_frameEndMarker :
    gives (exec (.frameEndMarker 0) (filling .live)) (fun t => (t.cport 0).waiting == [.frameEnd]) = true := by decide +kernel
theorem test_frameEnd_publishes :
    gives (exec (.frameEnd ⟨0, false⟩) (stream0 (fun t => { t with lineCount := 16 })
        (capture0 (fun q => { q with waiting := [.frameEnd] }) (filling .live))))
      (fun t => (t.bank 0 0).state == .valid && (t.bank 0 0).catalog == .held && (t.bank 0 0).lastTicket == 1) = true := by
  decide +kernel
theorem test_frameEnd_short :
    gives (exec (.frameEnd ⟨0, false⟩) (capture0 (fun q => { q with waiting := [.frameEnd] }) (filling .live)))
      (fun t => (t.bank 0 0).state == .empty && (t.stream 0).lastBroken == .short) = true := by decide +kernel
theorem test_lossTimerExpiry :
    gives (exec (.lossTimerExpiry 0) (filling .live))
      (fun t => (t.stream 0).state == .lost && t.now == 10000 && (t.stream 0).counters.broken == 1) = true := by
  decide +kernel
theorem test_sweepTimerExpiry :
    gives (exec .sweepTimerExpiry held0)
      (fun t => t.req.sweep == .returns && t.req.sweepTimer == some 2000
        && (t.client requestClient).queue == [⟨.returnRead 0 0, 0x403C, .read 4⟩]) = true := by decide +kernel
theorem test_returnTicketReadComplete :
    gives (exec .returnTicketReadComplete (grantedAt requestClient (.returnRead 0 0) [9, 0, 0, 0] held0))
      (fun t => (t.bank 0 0).catalog == .idle && t.req.sweep == .board) = true := by decide +kernel
theorem test_boardReadComplete :
    gives (exec .boardReadComplete { run0 with
        arb := run0.arb.setClient requestClient
          ⟨[], [⟨⟨.boardRead 0, 0x3000, .read 128⟩, leBytes 4 1 ++ leBytes 2 1 ++ zeros 122, [false], false⟩]⟩ })
      (fun t => t.turn.map (fun q => (q.1, q.2.kind)) == some (0, 1)) = true := by decide +kernel
theorem test_badKind :
    gives (exec .badKind (posted (plain 0x99) run0)) (fun t => (t.client requestClient).queue.length == 2) = true := by
  decide +kernel
theorem test_nop :
    gives (exec .nop (posted (slot 1 0 0 5 6 7 8) run0))
      (fun t => t.req.sweep == .idle && (t.client requestClient).queue.map (·.access.size) == [4, 128]) = true := by
  decide +kernel
theorem test_adoptStream :
    gives (exec .adoptStream (posted (plain 0x10) run0)) (fun t => (t.stream 0).adoption == .reading 0) = true := by
  decide +kernel
theorem test_streamRecordReadComplete :
    gives (exec (.streamRecordReadComplete 0) (stream0 (fun t => { t with adoption := .reading 0 })
        (grantedAt (streamClient 0) .streamRecordRead recordData run0)))
      (fun t => (t.stream 0).config == some cfg0 && (t.stream 0).state == .seeking) = true := by decide +kernel
theorem test_adoptionTakesEffect_waits_for_a_hold :
    gives (exec (.adoptionTakesEffect 0) (stream0 (fun t => { t with state := .off, adoption := .pending 0 cfg0 }) held0))
      (fun t => (t.stream 0).adoption == .pending 0 cfg0) = true := by decide +kernel
theorem test_stopStream :
    gives (exec .stopStream (posted (plain 0x11) (filling .live)))
      (fun t => (t.stream 0).state == .draining && (t.stream 0).waitingStop == some 0) = true := by decide +kernel
theorem test_holdStream :
    gives (exec .holdStream (posted (plain 0x12) live0)) (fun t => (t.stream 0).freeze == .active) = true := by decide +kernel
theorem test_resumeStream :
    gives (exec .resumeStream (posted (plain 0x13) (stream0 (fun t => { t with freeze := .active }) live0)))
      (fun t => (t.stream 0).freeze == .none) = true := by decide +kernel
theorem test_queryStream_clears :
    gives (exec .queryStream (posted (slot 0x14 0 1 0 0 0 0) (filling .live)))
      (fun t => (t.stream 0).counters == { StreamCounters.zero with arrived := 1 }) = true := by decide +kernel
/-- A hold is in the catalog before it is in a status record (R71): a QUERY_STREAM's status record waits behind a hold
event whose catalog write is outstanding. At the completion the event's own record is issued with the holds count after
it (R57), then what waited behind it, and what waits for a later hold event waits on. -/
theorem test_status_record_waits_for_the_catalog :
    gives (exec .queryStream (posted (plain 0x14) { held0 with reports := held0.reports.set 0 [⟨.live, .none, false, 1, true⟩] }))
      (fun t => (t.client (streamClient 0)).queue.isEmpty
        && t.reports[(0 : Fin 8)] == [⟨.live, .none, false, 1, true⟩, ⟨.live, .none, false, 1, false⟩]) = true
    ∧ gives (exec .catalogWriteComplete (grantedAt publicationClient (.catalogWrite 0 0 .published) []
        { held0 with reports := held0.reports.set 0 [⟨.seeking, .none, false, 2, true⟩, ⟨.live, .none, true, 2, false⟩,
          ⟨.live, .none, false, 1, true⟩] }))
      (fun t => t.reports[(0 : Fin 8)] == [⟨.live, .none, false, 1, true⟩] && (t.client (streamClient 0)).queue.map
        (fun b => (b.purpose, match b.access with | .write bs => (fieldNat bs 0 1, fieldNat bs 4 4) | _ => (0, 0)))
          == [(.streamStatus false, 1, 2), (.streamStatus true, 2, 2)]) = true := by decide +kernel
theorem test_grab :
    gives (exec .grab (posted (plain 0x20) (withBank 1 (validBank 4) live0)))
      (fun t => (t.bank 0 1).catalog == .held && t.req.grabWait == some 0) = true := by decide +kernel
theorem test_startPort :
    gives (exec .startPort (posted (slot 0x30 0 0 64 64 20000 0x6000) run0))
      (fun t => (t.port 0).state == .starting && t.walker 0 == ⟨.fetching, 0x6000, .head, 0, false⟩) = true := by decide +kernel
theorem test_splice :
    gives (exec .splice (posted (slot 0x31 0 1 0x7000 0 0 0) (portIn .showing (.idle true) run0)))
      (fun t => (t.port 0).splice == some ⟨.nextFrame, 0x7000, 0⟩) = true := by decide +kernel
theorem test_stopPort :
    gives (exec .stopPort (posted (plain 0x32) (portIn .parked (.idle true) run0)))
      (fun t => (t.port 0).state == .stopping) = true := by decide +kernel
theorem test_queryPort :
    gives (exec .queryPort (posted (slot 0x33 0 1 0 0 0 0)
        (port0 (fun q => { q with counters := { q.counters with shown := 4 } }) run0)))
      (fun t => (t.port 0).counters == PortCounters.zero) = true := by decide +kernel
theorem test_answerWriteComplete :
    gives (exec .answerWriteComplete (grantedAt requestClient (.answerWrite 3) [] (waits .requestUnit run0)))
      (fun t => t.req.inFlight[(3 : Fin 32)] == none && t.notice.pending == 1) = true := by decide +kernel
theorem test_catalogWriteComplete :
    gives (exec .catalogWriteComplete (grantedAt publicationClient (.catalogWrite 0 0 .published) [] held0))
      (fun t => (t.stream 0).counters.published == 1 && t.notice.pending == 2) = true := by decide +kernel
theorem test_streamStatusWriteComplete :
    gives (exec (.streamStatusWriteComplete 0) (grantedAt (streamClient 0) (.streamStatus true) [] run0))
      (fun t => t.notice.pending == 8) = true := by decide +kernel
theorem test_portStatusWriteComplete :
    gives (exec (.portStatusWriteComplete 3) (grantedAt (portClient 3) (.portStatus 2) [] run0))
      (fun t => t.notice.pending == 16 && t.notice.counts[(4 : Fin 6)] == 2) = true := by decide +kernel
theorem test_holdExpiry :
    gives (exec (.holdExpiry 0 0) held0)
      (fun t => (t.bank 0 0).catalog == .reclaimed && t.now == 500 && (t.publish 0).holds == 0) = true := by decide +kernel
theorem test_outputFrameStart :
    gives (exec (.outputFrameStart 0) (portIn .showing cueReady (withBank 0 (validBank 4) live0)))
      (fun t => (t.port 0).counters.fresh == 1 && t.bx.claims[(0 : Fin 4)] == some (0, 0)
        && (t.client (.scan 0)).queue.length == 2) = true := by decide +kernel
theorem test_scanReadComplete :
    gives (exec (.scanReadComplete 0) (grantedAt (.scan 0) (.scanRow 0) [1, 2]
        (port0 (fun q => { q with buffer := #v[.reading 0 [], .free] }) run0)))
      (fun t => (t.port 0).buffer == #v[.ready 0 [1, 2], .free]) = true := by decide +kernel
theorem test_lineUnderrun :
    gives (exec (.lineUnderrun 0) (port0
        (fun q => { q with shown := .bank frame0 ⟨1, 2, 3⟩, buffer := #v[.reading 0 [], .free] })
        (portIn .showing (.idle true) run0)))
      (fun t => (t.port 0).underran && (t.port 0).counters.underrunLines == 1) = true := by decide +kernel
theorem test_outputLineEnd :
    gives (exec (.outputLineEnd 0) (port0 (fun q => { q with shown := .fill ⟨1, 2, 3⟩ }) (portIn .showing (.idle true) run0)))
      (fun t => (t.port 0).linkLine == 1 && t.out.lines[(0 : Fin 4)].take 4 == [1, 2, 1, 3]) = true := by decide +kernel
theorem test_fetchCompletion :
    gives (exec (.fetchCompletion 0) (grantedAt (portClient 0) .cueRead (cueData 15 0 0xFFFFFFFF)
        (portFetching .showing 0x6040 .link run0)))
      (fun t => (t.walker 0).nextCueAddr == some 0x6040) = true := by decide +kernel
theorem test_headFetchCompletion_bad :
    gives (exec (.headFetchCompletion 0) (grantedAt (portClient 0) .cueRead (zeros 32)
        (portFetching .starting 0x6040 .head run0)))
      (fun t => (t.port 0).state == .off && (t.port 0).faultCause == .badCue) = true := by decide +kernel
theorem test_discardedReadCompletion :
    gives (exec (.discardedReadCompletion 0) ((grantedAt (portClient 0) .cueRead (zeros 32)
        (portFetching .showing 0x6040 .head run0)).modWalker 0 fun w => { w with discardedRead := true }))
      (fun t => !(t.walker 0).discardedRead && (t.client (portClient 0)).queue.length == 1) = true := by decide +kernel
theorem test_directoryReadComplete :
    gives (exec .directoryReadComplete (grantedAt runControlClient .directoryRead dirData (device .loading)))
      (fun t => t.ctl.dirCopy == some dir0 && (t.client runControlClient).queue.length == 13) = true := by decide +kernel
theorem test_statusInitComplete :
    gives (exec .statusInitComplete (grantedAt runControlClient (.statusInit true) [] (device .loading)))
      (fun t => t.ctl.device == .running && t.req.sweepTimer == some 1000) = true := by decide +kernel
theorem test_haltReclaim :
    gives (exec .haltReclaim (withBank 0 (heldBank 9) (device .stopping)))
      (fun t => (t.bank 0 0).catalog == .reclaimed && (t.bank 0 0).state == .empty) = true := by decide +kernel
theorem test_haltComplete :
    gives (exec .haltComplete { device .stopping with ctl := { (device .stopping).ctl with run := false } })
      (fun t => t.ctl.device == .halted && t.notice.pending == 32) = true := by decide +kernel
theorem test_countRecordWriteComplete :
    gives (exec .countRecordWriteComplete { grantedAt noticeClient .countRecord [] run0 with
        notice := { run0.notice with mirror := .issuedAgain } })
      (fun t => t.notice.mirror == .waiting) = true := by decide +kernel
theorem test_vectorMask : gives (exec .vectorMask reset0) (·.ep.vectorMasked) = true := by decide +kernel
theorem test_msiCapabilityChange : gives (exec (.msiCapabilityChange true) reset0) (·.ep.msiEnabled) = true := by
  decide +kernel
theorem test_step_on_empty_queue : gives (step reset0) (fun t => t.time.count == 1) = true := by decide +kernel

/-! ## States and operands that meet the hypotheses of the statements -/

theorem witness_StepOnEmptyQueueTicks : State.reset.pending = [] := by decide

theorem witness_ResetsComplete : (2 : Word).getLsbD 1 = true ∧ (0xFFFFFFFF : Word).getLsbD 1 = true := by decide

theorem witness_DramAndInterruptConfiguration :
    State.reset.arb.dramReady = false ∧ run0.arb.dramReady = true ∧ run0.arb.choose = none := by decide +kernel

theorem witness_DirbaseRegister :
    (device .halted).ctl.device = .halted ∧ (device .faulted).ctl.device = .faulted
    ∧ (device .loading).ctl.device = .loading ∧ (device .running).ctl.device = .running
    ∧ (device .stopping).ctl.device = .stopping ∧ (3 : Word).getLsbD 1 = true
    ∧ ((1 : Word).getLsbD 1 = false ∧ (1 : Word).getLsbD 0 = true ∧ State.reset.ctl.device = .halted
      ∧ State.reset.ctl.run = false)
    ∧ (let m := { reset0 with ctl := { reset0.ctl with load := .toIssue } }; m.ctl.load = .toIssue ∧ m.ep.windowAhead = 0) := by
  decide +kernel

theorem witness_RunLevel :
    ((1 : Word).getLsbD 1 = false ∧ State.reset.ctl.device = .halted ∧ State.reset.ctl.run = false
      ∧ (1 : Word).getLsbD 0 = true)
    ∧ ((0 : Word).getLsbD 1 = false ∧ (device .faulted).ctl.device = .faulted ∧ (device .faulted).ctl.run = true
      ∧ (0 : Word).getLsbD 0 = false)
    ∧ (1 : Word).getLsbD 0 = run0.ctl.run ∧ (device .loading).ctl.device = .loading
    ∧ (device .stopping).ctl.device = .stopping
    ∧ gives (exec (.run 1) (queued .window ⟨.window, 0, .read 1⟩ { device .stopping with ctl := { (device .stopping).ctl with run := false } }))
        (fun t => t.ctl.run && t.ctl.device == .stopping && t.ep.windowAhead == 1) = true := by decide +kernel

theorem witness_RunLoweredBeginsHalt :
    let runs := fun m : State => m.ctl.device = .running ∧ m.ctl.run = true
    let reads := fun u : Purpose => u.isReturnRead || u.isBoardRead
    let busy := fun m : State => (∃ b ∈ (m.client requestClient).queue, reads b.purpose = true)
      ∨ (∃ g ∈ (m.client requestClient).granted, reads g.burst.purpose = true) ∨ m.req.grabWait ≠ none
    let reading := queued requestClient ⟨.returnRead 0 0, 0x403C, .read 4⟩ run0
    let spliced := port0 (fun q => { q with splice := some ⟨.cueEnd, 0x6020, 3⟩ }) (portIn .stopping headReady run0)
    let offered := offering 1 (withBank 1 (validBank 4) live0)
    let full := offering 1 held0
    (0 : Word).getLsbD 1 = false ∧ (0 : Word).getLsbD 0 = false ∧ runs run0 ∧ ¬ busy run0
    ∧ (runs (waits (.streamController 0) (filling .live)) ∧ ¬ busy (waits (.streamController 0) (filling .live)))
    ∧ (runs reading ∧ busy reading ∧ ∀ s, (reading.stream s).waitingStop = none)
    ∧ (runs spliced ∧ (spliced.port 0).state ≠ .starting) ∧ (runs (filling .draining) ∧ ((filling .draining).stream 0).state = .draining)
    ∧ (runs offered ∧ (offered.publish 0).offer = some 1 ∧ (offered.stream 0).state = .live
      ∧ (offered.bank 0 1).state = .valid ∧ (offered.bank 0 1).hold = none ∧ (offered.publish 0).holds ≠ offered.holdLimit 0)
    ∧ (runs full ∧ (full.publish 0).offer = some 1 ∧ (full.publish 0).holds = full.holdLimit 0)
    ∧ (∀ p : PortId, (run0.port p).claimed.map (fun b => (b.stream, b.bank)) = run0.bx.claims[p]
      ∧ ((run0.port p).state = .off ∨ (run0.port p).state = .starting → run0.bx.claims[p] = none))
    ∧ gives (exec (.run 0) offered)
        (fun t => t.reports[(0 : Fin 8)] == [⟨.live, .none, false, 1, true⟩, ⟨.off, .none, true, 1, false⟩] && (t.client (streamClient 0)).queue.isEmpty) = true
    ∧ gives (exec (.run 0) spliced) (fun t => (t.client (portClient 0)).queue.map (·.purpose) == [.portStatus 0]) = true
    ∧ gives (exec (.run 0) (waits (.streamController 0) live0))
        (fun t => t.req.inFlight[(3 : Fin 32)] == some ⟨plain 0x12, .streamController 0, .answering⟩) = true
    ∧ gives (exec (.run 0) (waits (.streamController 0) reading))
        (fun t => t.req.inFlight[(3 : Fin 32)] == some ⟨plain 0x12, .streamController 0, .waiting⟩) = true := by
  decide +kernel

theorem witness_NudgeTriggersSweep :
    let nudged := fun m : State => { m with ep := { m.ep with heldNudges := [0, 2] } }
    run0.ctl.device = .running ∧ (device .stopping).ctl.device ≠ .running
    ∧ (nudged run0).ep.heldNudges = 0 :: [2] ∧ run0.ep.heldNudges = []
    ∧ { run0.ep with heldNudges := [1] }.heldNudges = [1] ∧ (1 : Nat) ≠ 0
    ∧ ((posted (plain 1) run0).ctl.device = .running ∧ (posted (plain 1) run0).req.halting = false
      ∧ (posted (plain 1) run0).req.sweep ≠ .idle)
    ∧ ((nudged run0).ctl.device = .running ∧ (nudged run0).req.halting = false ∧ (nudged run0).req.sweep = .idle)
    ∧ (nudged (device .stopping)).ctl.device ≠ .running := by decide +kernel

theorem witness_RegisterReadsAndIgnoredWrites :
    0x24 ≤ 0x24 ∧ ignoredWrite 0x24 4 = true ∧ ignoredWrite 0x04 3 = true ∧ ignoredWrite 0x1C 8 = true
    ∧ ignoredWrite 0x06 4 = true ∧ ignoredWrite 0x0A 8 = true ∧ ignoredWrite 0x04 6 = true
    ∧ (1 ≤ 1 ∧ 0x07 % 4 + 1 ≤ 4) ∧ (1 ≤ 4 ∧ 0x1C % 4 + 4 ≤ 4) ∧ (1 ≤ 2 ∧ 0x22 % 4 + 2 ≤ 4)
    ∧ [(0x1C, 1), (0x1F, 1), (0x1D, 2), (0x1C, 4), (0x18, 8), (0x1C, 8)].all (fun q => timeLoReadOk q.1 q.2) = true := by
  decide

theorem witness_WindowAccesses :
    (WindowAccess.read 0x3FFFFFFF 1).wellFormed = true ∧ (WindowAccess.write 0 [1]).wellFormed = true
    ∧ (WindowAccess.read 0x3FFFFFFF 2).wellFormed = false ∧ (WindowAccess.read 0 0).wellFormed = false
    ∧ ((grantedAt .window .window [8] run0).client .window).granted.head?
      = some ⟨⟨.window, 0x2000, .read 1⟩, [8], [], false⟩ := by decide +kernel

theorem witness_WindowPiecesSplit :
    1 ≤ 64 ∧ 0x1C0 / 256 = (0x1C0 + 64 - 1) / 256 ∧ 0x1C1 / 256 ≠ (0x1C1 + 64 - 1) / 256 ∧ ([0] : List Byte) ≠ [] := by
  decide

/-- A client's burst for the arbiter's witnesses. -/
def wburst (p : Purpose) (n : Nat) : Burst := ⟨p, 0x3FFFFFF0, .write (List.replicate n 7)⟩
def scanB : State := queued (.scan 2) ⟨.scanRow 0, 0, .read 256⟩ run0
def captureB : State := queued (.capture 7) (wburst (.captureLine 0) 16) run0
def controlB : State := queued requestClient ⟨.boardRead 0, 0x3000, .read 256⟩ run0
def windowB : State := queued .window (wburst .window 16) run0
def floors (w c : Nat) (m : State) : State := { m with arb := { m.arb with windowFloor := w, controlFloor := c } }
def all4 : State :=
  queued .window (wburst .window 16) (queued requestClient (wburst (.takenWrite 0) 4)
    (queued (.capture 7) (wburst (.captureLine 0) 16) scanB))

theorem witness_ArbiterChoice :
    run0.arb.choose = none
    ∧ (floors 15 7 all4).arb.choose = some (.control 1) ∧ (floors 15 6 all4).arb.choose = some .window
    ∧ (floors 14 6 all4).arb.choose = some (.scan 2) ∧ (floors 14 7 captureB).arb.choose = some (.capture 7)
    ∧ controlB.arb.choose = some (.control 1) ∧ windowB.arb.choose = some .window
    ∧ ((1 : Fin 4) - run0.arb.rotScan).val < ((2 : Fin 4) - run0.arb.rotScan).val
    ∧ ((6 : Fin 8) - run0.arb.rotCapture).val < ((7 : Fin 8) - run0.arb.rotCapture).val
    ∧ ((0 : Fin 16) - run0.arb.rotControl).val < ((1 : Fin 16) - run0.arb.rotControl).val := by decide +kernel

/-- What a grant to client `c` of its only burst `b` needs. -/
def grantable (m : State) (c : ClientId) (b : Burst) : Prop :=
  m.arb.dramReady = true ∧ Memory.wf m.mem = true ∧ m.arb.choose = some c ∧ (m.client c).queue = [b]
  ∧ b.addr + b.access.size ≤ Config.memorySize

theorem witness_GrantActsWhole :
    grantable scanB (.scan 2) ⟨.scanRow 0, 0, .read 256⟩ ∧ grantable captureB (.capture 7) (wburst (.captureLine 0) 16)
    ∧ grantable controlB requestClient ⟨.boardRead 0, 0x3000, .read 256⟩
    ∧ grantable (queued noticeClient ⟨.countRecord, 0x5300, .writeCounts⟩ run0) noticeClient
      ⟨.countRecord, 0x5300, .writeCounts⟩
    ∧ grantable windowB .window (wburst .window 16)
    ∧ (⟨.boardRead 0, 0x3000, .read 256⟩ : Burst).purpose = .boardRead 0
    ∧ (wburst (.captureLine 0) 16).purpose = .captureLine 0 ∧ (wburst .window 16).access = .write (List.replicate 16 7)
    ∧ ClientId.cls (.scan 2) = .scan ∧ requestClient.cls = .control
    ∧ (⟨.boardRead 0, 0x3000, .read 256⟩ : Burst).purpose ≠ .countRecord := by
  unfold grantable; decide +kernel

theorem witness_GrantMovesFloorsAndClient :
    (Config.memorySize < (wburst .window 17).addr + (wburst .window 17).access.size
      ∧ (queued .window (wburst .window 17) run0).arb.choose = some .window)
    ∧ (wburst .window 16).addr + (wburst .window 16).access.size ≤ Config.memorySize
    ∧ grantable windowB .window (wburst .window 16) ∧ grantable captureB (.capture 7) (wburst (.captureLine 0) 16)
    ∧ grantable (queued noticeClient ⟨.countRecord, 0x5300, .writeCounts⟩ run0) (.control 3)
      ⟨.countRecord, 0x5300, .writeCounts⟩
    ∧ (wburst .window 16).purpose = .window ∧ (wburst (.captureLine 0) 16).purpose = .captureLine 0
    ∧ (let whole := capture0 (fun q => { q with buffer := #v[some ⟨0, [], 32, false⟩, some ⟨1, [], 0, true⟩] })
        (queued (.capture 0) (wburst (.captureLine 0) 16) live0)
      gives (exec .burstGrant whole)
        (fun t => t.cport 0 == { whole.cport 0 with buffer := #v[none, some ⟨1, [], 0, true⟩] }) = true) := by
  unfold grantable; decide +kernel

theorem witness_OnlyGrantsWriteMemory :
    Instr.vectorMask ≠ .burstGrant ∧ Instr.vectorMask ≠ .powerOnReset
    ∧ exec .vectorMask reset0 = .next { reset0 with ep := { reset0.ep with vectorMasked := true } } :=
  ⟨by decide, by decide, rfl⟩

theorem witness_WriterChoosesBank :
    reset0.bx.writerChoice 0 = none ∧ live0.bx.writerChoice 0 = some 0
    ∧ (withBank 0 (validBank 4) (withBank 1 (validBank 3) (withBank 2 (validBank 5) live0))).bx.writerChoice 0 = some 1 := by
  decide +kernel

theorem witness_WriterCandidateBound :
    let one := held0.setClaim 1 (some (0, 1))
    held0.bx.geometry[(0 : StreamId)] = some cfg0.geometry ∧ cfg0.geometry.bankCount.toNat ≤ 8
    ∧ held0.filling 0 = none ∧ held0.HoldAccounts ∧ held0.holdLimit 0 + 2 ≤ cfg0.geometry.bankCount.toNat
    ∧ held0.bx.claimCount 0 = 0 ∧ one.HoldAccounts ∧ one.bx.claimCount 0 = 1 := by
  unfold State.HoldAccounts; decide +kernel

/-- A frame start of stream 0 waits at the capture port, its marker decoded at 7, and more behind it. -/
def starts0 (rest : List LinkEvent) (m : State) : State := capture0 (fun q => { q with waiting := .frameStart 7 :: rest }) m

theorem witness_FrameStartClassifiesFrame :
    let ok := fun m : State => m.presentsStart 0 false m.now [] ∧ (m.stream 0).config = some cfg0 ∧ m.filling 0 = none
      ∧ (m.publish 0).offer = none
    let frozen := stream0 (fun t => { t with freeze := .active }) live0
    let none0 := withBank 0 (heldBank 1) (withBank 1 (heldBank 2) (withBank 2 (heldBank 3) live0))
    ok live0 ∧ (adopted .seeking).filling 0 = none ∧ ((adopted .seeking).stream 0).state = .seeking
    ∧ ((adopted .lost).stream 0).state = .lost ∧ ok (adopted .lost)
    ∧ ok frozen ∧ (frozen.stream 0).freeze = .active
    ∧ (live0.stream 0).decimation + 1 < { cfg0 with captureDivisor := 2 }.captureDivisor.toNat
    ∧ ¬ (live0.stream 0).decimation + 1 < cfg0.captureDivisor.toNat
    ∧ ok none0 ∧ none0.bx.writerChoice 0 = none ∧ live0.bx.writerChoice 0 = some 0
    ∧ live0.presentsStart 0 false live0.now [] ∧ (starts0 [.frameEnd] live0).presentsStart 0 true 7 [.frameEnd]
    ∧ (starts0 [.frameEnd] live0).filling 0 = none := by
  unfold State.presentsStart; decide +kernel

theorem witness_FrameStartBreaksFrame :
    let live := filling .live
    let frozen := fun f => stream0 (fun t => { t with freeze := f, waitingHold := some 3 }) live
    let behind := capture0 (fun q => { q with waiting := [.frameEnd] }) live
    (live.presentsStart 0 false live.now [] ∧ (live.stream 0).config = some cfg0 ∧ live.filling 0 = some 0
      ∧ (live.stream 0).state = .live ∧ (live.stream 0).freeze = .none ∧ (live.publish 0).offer = none)
    ∧ ((frozen .pending).filling 0 = some 0 ∧ ((frozen .pending).stream 0).freeze = .pending
      ∧ ((frozen .pending).stream 0).waitingHold = some 3)
    ∧ ((frozen .active).filling 0 = some 0 ∧ ((frozen .active).stream 0).freeze ≠ .none)
    ∧ ((live.bx.modBank 0 0 fun b =>
        { b with state := .empty, seq := 0, captureTime := 0, lines := 0, flags := ⟨false, false⟩ }).writerChoice 0 = some 0)
    ∧ ((filling .draining).filling 0 = some 0 ∧ ((filling .draining).stream 0).state = .draining)
    ∧ (.frameEnd ∈ (behind.cport 0).waiting ∧ (behind.stream 0).state ≠ .off) ∧ (run0.stream 0).state = .off
    ∧ ((starts0 [] live).presentsStart 0 true 7 [] ∧ (starts0 [] live).filling 0 = some 0)
    ∧ ((starts0 [] (filling .draining)).presentsStart 0 true 7 [] ∧ (filling .draining).presentsStart 0 false live.now [])
    ∧ (live.cport 0).waiting.head? = none := by
  unfold State.presentsStart; decide +kernel

/-- A frame start waits with no frame end, the hypotheses of `State.startsGoFirst` and of the clauses that speak of it, and
a frame end waits before a line that begins. -/
theorem witness_frame_starts_wait :
    let m := capture0 (fun q => { q with waiting := [.frameEnd] }) (filling .live)
    (LinkEvent.frameEnd ∈ (m.cport 0).waiting ∧ (m.cport 0).receiving = false ∧ (m.stream 0).state ≠ .off)
    ∧ ((starts0 [] live0).cport 0).waiting = .frameStart 7 :: [] ∧ .frameEnd ∉ ([] : List LinkEvent)
    ∧ ((starts0 [] live0).stream 0).state ≠ .off ∧ ((starts0 [] live0).cport 0).openLine = none := by decide +kernel

theorem witness_LineStartTakesEntryOrOverruns :
    let m := filling .live
    let line : BufferedLine := ⟨0, [], 0, true⟩
    let with0 := capture0 (fun q => { q with buffer := #v[some line, none] }) m
    let with2 := capture0 (fun q => { q with buffer := #v[some line, some line] }) m
    let ok := fun m : State => (m.stream 0).state ≠ .off ∧ (m.cport 0).openLine = none ∧ m.filling 0 = some 0
      ∧ (m.cport 0).waiting = [] ∧ (m.bx.geom 0).height.toNat = 16
    1 ≤ [(1 : Byte), 2].length / (m.bx.geom 0).format.bytesPerPixel
    ∧ ok (stream0 (fun t => { t with lineCount := 16 }) m) ∧ ok (stream0 (fun t => { t with lineCount := 15 }) m)
    ∧ (ok m ∧ (m.cport 0).buffer[(0 : Fin 2)] = none)
    ∧ (ok with0 ∧ (with0.cport 0).buffer[(1 : Fin 2)] = none ∧ (with0.cport 0).buffer[(0 : Fin 2)] ≠ none)
    ∧ (ok with2 ∧ ∀ e : Fin 2, (with2.cport 0).buffer[e] ≠ none)
    ∧ (live0.filling 0 = none ∧ (live0.stream 0).state ≠ .off ∧ (live0.cport 0).receiving = false)
    ∧ (ok { with2 with streams := (filling .draining).streams } ∧ ((filling .draining).stream 0).state = .draining)
    ∧ (let n := fun s => stream0 (fun t => { t with waitingStop := some 3, waitingHold := some 4, freeze := .pending })
        { with2 with streams := (filling s).streams }
      ok (n .draining) ∧ ((n .draining).stream 0).waitingStop = some 3 ∧ ok (n .live)
      ∧ ((n .live).stream 0).waitingHold = some 4 ∧ ((n .live).stream 0).freeze = .pending)
    ∧ (live0.cport 0).waiting = [] := by decide +kernel

/-- A line of stream 0 is being received. -/
def receiving0 (l : OpenLine) (b : Option BufferedLine) (m : State) : State :=
  capture0 (fun q => { q with openLine := some l, buffer := #v[b, none] }) m

theorem witness_LineStartTakesEntryOrOverruns_more_pixels :
    let m := filling .live
    let held := receiving0 ⟨2, some 0, false⟩ (some ⟨0, [1, 2, 3, 4], 0, false⟩) m
    ((receiving0 ⟨0, none, true⟩ none m).cport 0).openLine = some ⟨0, none, true⟩
    ∧ (((receiving0 ⟨16, none, false⟩ none m).cport 0).openLine = some ⟨16, none, false⟩ ∧ m.filling 0 ≠ none)
    ∧ (((receiving0 ⟨16, some 0, false⟩ none m).cport 0).openLine = some ⟨16, some 0, false⟩ ∧ m.filling 0 = some 0
      ∧ ((receiving0 ⟨16, some 0, false⟩ none m).cport 0).buffer[(0 : Fin 2)] = none)
    ∧ ((held.cport 0).openLine = some ⟨2, some 0, false⟩ ∧ held.filling 0 = some 0
      ∧ (held.cport 0).buffer[(0 : Fin 2)] = some ⟨0, [1, 2, 3, 4], 0, false⟩)
    ∧ gives (exec (.lineStart 0 [5, 6, 7]) held) (fun t => t.cport 0
        == { held.cport 0 with openLine := some ⟨3, some 0, false⟩, buffer := #v[some ⟨0, [1, 2, 3, 4, 5, 6], 0, false⟩, none] })
      = true := by decide +kernel

/-- The clauses of the two line statements that leave the state, or end a discarded line: their hypotheses, and that line's
end. -/
theorem witness_lines_without_effect :
    let m := filling .live
    let discarded := receiving0 ⟨0, none, true⟩ none m
    let lone := receiving0 ⟨4, none, false⟩ none live0
    ((m.cport 0).openLine = none ∧ m.filling 0 ≠ none ∧ (m.cport 0).waiting = []
      ∧ [(1 : Byte)].length / (m.bx.geom 0).format.bytesPerPixel = 0)
    ∧ (run0.stream 0).state = .off
    ∧ ((discarded.stream 0).state ≠ .off ∧ (discarded.cport 0).openLine = some ⟨0, none, true⟩)
    ∧ ((lone.stream 0).state ≠ .off ∧ (lone.cport 0).openLine = some ⟨4, none, false⟩ ∧ lone.filling 0 = none)
    ∧ gives (exec (.lineEnd 0) discarded) (fun t => (t.cport 0).openLine == none && (t.stream 0).lineCount == 0) = true := by
  decide +kernel

theorem witness_LineEndCountsLine :
    let m := filling .live
    let open0 := fun (e : Option (Fin 2)) => capture0 (fun q =>
      { q with openLine := some ⟨16, e, false⟩, buffer := #v[some ⟨0, [1, 2], 0, false⟩, none] }) m
    (m.stream 0).state ≠ .off ∧ m.filling 0 = some 0 ∧ ((open0 none).cport 0).openLine = some ⟨16, none, false⟩
    ∧ ((m.cport 0).openLine = none ∧ (m.cport 0).waiting = [])
    ∧ (((open0 (some 0)).cport 0).openLine = some ⟨16, some 0, false⟩
      ∧ ((open0 (some 0)).cport 0).buffer[(0 : Fin 2)] = some ⟨0, [1, 2], 0, false⟩)
    ∧ (((open0 (some 1)).cport 0).openLine = some ⟨16, some 1, false⟩
      ∧ ((open0 (some 1)).cport 0).buffer[(1 : Fin 2)] = none)
    ∧ ((run0.stream 0).state = .off ∧ (live0.filling 0 = none ∧ (live0.cport 0).waiting = [])
      ∧ .frameEnd ∈ ((capture0 (fun q => { q with waiting := [.frameEnd] }) m).cport 0).waiting) := by decide +kernel

theorem witness_FrameEndCompletesOrBreaks :
    let at0 := fun (s : StreamState) (n : Half) =>
      stream0 (fun t => { t with lineCount := n }) (capture0 (fun q => { q with waiting := [.frameEnd] }) (filling s))
    let ok := fun m : State => (m.cport 0).waiting = [.frameEnd] ∧ (m.cport 0).allFree = true ∧ m.filling 0 = some 0
      ∧ (m.stream 0).state ≠ .off ∧ (m.bx.geom 0).height.toNat = 16
    let busy := capture0 (fun q => { q with buffer := #v[some ⟨0, [], 0, true⟩, none] }) (at0 .live 16)
    (run0.stream 0).state = .off ∧ ((busy.cport 0).waiting.head? = some .frameEnd ∧ (busy.cport 0).allFree = false)
    ∧ ok (at0 .live 15) ∧ ok (at0 .live 16) ∧ ok (at0 .draining 16)
    ∧ (let m := capture0 (fun q => { q with waiting := [.frameEnd] }) live0
      (m.cport 0).waiting = [.frameEnd] ∧ (m.cport 0).allFree = true ∧ m.filling 0 = none)
    ∧ (let m := stream0 (fun t => { t with waitingStop := some 3 }) (at0 .draining 16)
      ok m ∧ (m.stream 0).state = .draining ∧ (m.stream 0).freeze = .none ∧ (m.stream 0).waitingStop = some 3)
    ∧ (let m := stream0 (fun t => { t with freeze := .pending, waitingHold := some 3 }) (at0 .live 16)
      ok m ∧ (m.stream 0).freeze = .pending ∧ (m.stream 0).waitingHold = some 3)
    ∧ (live0.cport 0).waiting.head? ≠ some .frameEnd := by
  decide +kernel

/-- A frame start behind a frame end waits on when the frame end has been presented, its stream's new frame VALID, so that
a claim may come between the two (R13, R23). -/
theorem test_start_waits_behind_completion :
    gives (exec (.frameEnd ⟨0, false⟩) (stream0 (fun t => { t with lineCount := 16 })
        (capture0 (fun q => { q with waiting := [.frameEnd, .frameStart 7] }) (filling .live))))
      (fun t => (t.bank 0 0).state == .valid && (t.cport 0).waiting == [.frameStart 7] && (t.stream 0).seq == 5) = true := by
  decide +kernel

/-- 'Claim, then writer' (R13): the bank that the claim joined is no candidate of the frame start that waited. -/
theorem test_waiting_start_after_claim :
    let full := withBank 0 (validBank 5) (withBank 1 (heldBank 1) (withBank 2 (heldBank 2) live0))
    gives (exec (.frameStart ⟨0, true⟩) ((starts0 [] full).setClaim 0 (some (0, 0))))
      (fun t => (t.bank 0 0).state == .valid && (t.stream 0).counters.dropped == 1 && (t.cport 0).waiting == []) = true
    ∧ gives (exec (.frameStart ⟨0, true⟩) (starts0 [] full))
      (fun t => t.filling 0 == some 0 && (t.bank 0 0).captureTime == 7) = true := by decide +kernel

/-- The first pixel of a line comes after the frame starts that wait: the line is row 0 of the last one's frame, which has
the time that it waited with and broke the frame of the first (R23, R31). -/
theorem test_line_after_waiting_starts :
    gives (exec (.lineStart 0 [1, 2]) (starts0 [.frameStart 8] live0))
      (fun t => (t.filling 0).map (fun i => (t.bank 0 i).captureTime) == some 8 && (t.cport 0).waiting == []
        && (t.stream 0).counters.broken == 1 && (t.stream 0).seq == 7
        && (t.cport 0).openLine == some ⟨1, some 0, false⟩) = true := by
  decide +kernel

theorem witness_LossTimerExpires :
    (live0.stream 0).lossTimer = some 10000 ∧ (live0.stream 0).state = .live ∧ live0.filling 0 = none
    ∧ ((adopted .seeking).stream 0).state = .seeking ∧ ((filling .live).stream 0).lossTimer = some 10000
    ∧ (filling .live).filling 0 = some 0 ∧ ((filling .draining).stream 0).state = .draining
    ∧ (filling .draining).filling 0 = some 0
    ∧ (let m := fun s => stream0 (fun t => { t with waitingStop := some 3, waitingHold := some 4, freeze := .pending }) (filling s)
      ((m .draining).stream 0).waitingStop = some 3 ∧ ((m .live).stream 0).waitingHold = some 4
      ∧ ((m .live).stream 0).freeze = .pending ∧ ((m .live).publish 0).offer = none) := by decide +kernel

theorem witness_SweepTimerTriggers :
    let records := fun m : State => allPositions.filter fun q => (m.bank q.1 q.2).catalog != .idle
    run0.req.sweepTimer = some 1000 ∧ run0.ctl.device = .running ∧ run0.req.halting = false ∧ run0.req.sweep = .idle
    ∧ records run0 = [] ∧ (held0.req.sweepTimer = some 1000 ∧ held0.req.sweep = .idle ∧ records held0 ≠ [])
    ∧ ((posted (plain 1) run0).req.sweepTimer = some 1000 ∧ (posted (plain 1) run0).req.sweep ≠ .idle)
    ∧ ¬ (device .stopping).ctl.device = .running := by decide +kernel

theorem witness_ReturnTicketExamined :
    let at0 := fun (b : Bank) (t : Byte) => grantedAt requestClient (.returnRead 0 0) [t, 0, 0, 0] (withBank 0 b held0)
    let g := fun t : Byte => (⟨⟨.returnRead 0 0, 0x2000, .read 4⟩, [t, 0, 0, 0], [], false⟩ : Granted)
    let reclaimed := { validBank 4 with catalog := .reclaimed, lastTicket := 9 }
    (((at0 (heldBank 9) 9).client requestClient).granted.head? = some (g 9) ∧ (at0 (heldBank 9) 9).req.halting = false
      ∧ fieldHalf (g 9).data 0 = ((at0 (heldBank 9) 9).bank 0 0).lastTicket
      ∧ ((at0 (heldBank 9) 9).bank 0 0).catalog = .held)
    ∧ ((at0 reclaimed 9).bank 0 0).catalog = .reclaimed ∧ fieldHalf (g 9).data 0 = ((at0 reclaimed 9).bank 0 0).lastTicket
    ∧ ¬ fieldHalf (g 8).data 0 = ((at0 (heldBank 9) 8).bank 0 0).lastTicket
    ∧ ((at0 (heldBank 9) 9).client requestClient).queue.any (fun x => x.purpose.isReturnRead) = false
    ∧ ((queued requestClient ⟨.returnRead 0 1, 0, .read 4⟩ (at0 (heldBank 9) 9)).client requestClient).queue.any
      (fun x => x.purpose.isReturnRead) = true
    ∧ (let m := waits (.streamController 0) (at0 (heldBank 9) 9)
      let m := { m with req := { m.req with halting := true, sweep := .returns } }
      m.req.halting = true ∧ (m.client requestClient).granted.head? = some (g 9)
      ∧ gives (exec .returnTicketReadComplete m) (fun t => (t.bank 0 0).catalog == .held && t.req.sweep == .idle
          && t.req.inFlight[(3 : Fin 32)] == some ⟨plain 0x12, .streamController 0, .answering⟩) = true) := by
  decide +kernel

theorem witness_BoardReadCopied :
    let at0 := fun m : State => { m with
      arb := m.arb.setClient requestClient
        ⟨(m.client requestClient).queue, [⟨⟨.boardRead 0, 0x3000, .read 128⟩, leBytes 4 1 ++ zeros 124, [false], false⟩]⟩
      req := { m.req with sweep := .board } }
    let more := queued requestClient ⟨.boardRead 2, 0x3100, .read 256⟩ (at0 run0)
    (((at0 run0).client requestClient).granted.map (·.burst.purpose) = [.boardRead 0] ∧ (at0 run0).req.halting = false
      ∧ (at0 run0).req.grabWait = none)
    ∧ (decodeSlots (leBytes 4 1 ++ zeros 124) [false]).any (fun b => b.state.toNat == 1 && !b.inFlight) = true
    ∧ (decodeSlots (leBytes 4 1 ++ zeros 124) [true]).any (fun b => b.state.toNat == 1 && !b.inFlight) = false
    ∧ (more.client requestClient).queue.any (fun x => x.purpose.isBoardRead) = true
    ∧ (at0 { run0 with req := { run0.req with halting := true } }).req.halting = true
    ∧ 0 < [false].length ∧ ((decodeSlots (leBytes 4 1 ++ leBytes 2 0x31 ++ [2, 1] ++ zeros 120) [true]).map fun b =>
      (b.state, b.request.kind, b.request.target, b.request.flags, b.inFlight)) = [(1, 0x31, 2, 1, true)] := by
  decide +kernel

/-- The kind field of a request that each command takes. -/
def kindCodes : List Half := [0x99, 0x01, 0x10, 0x11, 0x12, 0x13, 0x14, 0x20, 0x30, 0x31, 0x32, 0x33]

theorem witness_SlotTakenOnTurn :
    (requestCommands.map (·.2)) = kindCodes.map RequestKind.ofCode
    ∧ kindCodes.all (fun k => (posted (plain k) run0).turn == some (0, plain k)) = true ∧ run0.req.halting = false
    ∧ RequestKind.ofCode (plain 0x02).kind ≠ some .nop ∧ run0.turn = none := by decide +kernel

theorem witness_NopEchoesArgs :
    let m := grantedAt requestClient (.answerWrite 31) [] run0
    (posted (plain 1) run0).turn = some (0, plain 1) ∧ RequestKind.ofCode (plain 1).kind = some .nop
    ∧ run0.req.halting = false
    ∧ (m.client requestClient).granted.head? = some ⟨⟨.answerWrite 31, 0x2000, .read 0⟩, [], [], false⟩ := by
  decide +kernel

theorem witness_BadKindAndTargetRefused :
    let s := fun (k : Half) (t : Byte) => slot k t 0 0 0 0 0
    (posted (plain 0x99) run0).turn = some (0, plain 0x99) ∧ run0.req.halting = false
    ∧ RequestKind.ofCode (plain 0x99).kind = none
    ∧ [0x10, 0x11, 0x12, 0x13, 0x14, 0x20].all (fun k => (posted (s k 8) run0).turn == some (0, s k 8)
      && decide (8 ≤ (s k 8).target.toNat)) = true
    ∧ [0x30, 0x31, 0x32, 0x33].all (fun k => (posted (s k 4) run0).turn == some (0, s k 4)
      && decide (4 ≤ (s k 4).target.toNat)) = true := by decide +kernel

theorem witness_AdoptStreamReadsRecord :
    let reading := stream0 (fun t => { t with adoption := .reading 0 })
      (grantedAt (streamClient 0) .streamRecordRead recordData run0)
    (posted (plain 0x10) run0).onTurn .adoptStream 0 (plain 0x10) ∧ (plain 0x10).target.toNat = 0
    ∧ (run0.stream 0).state = .off ∧ (run0.stream 0).adoption = .none ∧ (live0.stream 0).state ≠ .off
    ∧ (reading.client (streamClient 0)).granted.map (·.burst.purpose) = [.streamRecordRead]
    ∧ (reading.stream 0).adoption = .reading 0 ∧ reading.checkRecord 0 recordData = .inr cfg0
    ∧ reading.checkRecord 0 (zeros 64) = .inl .badField ∧ (∀ n, (run0.stream 0).adoption ≠ .reading n) := by
  unfold State.onTurn; decide +kernel

theorem witness_StreamRecordChecks :
    let c := cfg0.geometry.footprint
    decodeStreamRecord (zeros 64) = none ∧ decodeStreamRecord recordData = some cfg0 ∧ c.base + c.size ≤ 0x40000000
    ∧ { cfg0 with bankBase := 0x3FFFF000 }.geometry.footprint.base + c.size > 0x40000000
    ∧ fieldNat (zeros 64) 0x04 1 < 2 ∧ fieldNat recordData 0x00 4 % 4096 = 0 ∧ fieldNat recordData 0x05 1 = 1
    ∧ fieldNat recordData 0x06 1 = 1 ∧ fieldNat recordData 0x07 1 = 0 ∧ fieldNat recordData 0x10 1 + 2 ≤ fieldNat recordData 0x04 1
    ∧ [0, 0x2000, 0x3000, 0x4000, 0x5000].map (fun a =>
        run0.checkRecord 0 (leBytes 4 a ++ recordData.drop 4)) = List.replicate 5 (.inl .overlap)
    ∧ run0.checkRecord 0 recordData = .inr cfg0 ∧ live0.checkRecord 1 recordData = .inl .overlap
    ∧ (run0.modStream 0 fun t => { t with adoption := .pending 3 cfg0 }).checkRecord 1 recordData = .inl .overlap
    ∧ (stream0 (fun t => { t with state := .off }) held0).checkRecord 1 recordData = .inl .overlap
    ∧ (stream0 (fun t => { t with state := .off }) live0).checkRecord 1 recordData = .inr cfg0
    ∧ (held0.bank 0 0).hold ≠ none ∧ (∀ i, (run0.bank 0 i).hold = none) := by decide +kernel

theorem witness_AdoptionTakesEffect :
    let m := stream0 (fun t => { t with adoption := .pending 3 cfg0 }) run0
    let h := stream0 (fun t => { t with state := .off, adoption := .pending 3 cfg0 }) held0
    ((m.stream 0).adoption = .pending 3 cfg0 ∧ (m.stream 0).state = .off
      ∧ (∀ (p : PortId) (i : BankIx), m.bx.claims[p] ≠ some (0, i)) ∧ (∀ i, (m.bank 0 i).hold = none)
      ∧ ∀ k, m.bx.retainedWithin k cfg0.geometry.footprint = false)
    ∧ ((h.stream 0).adoption = .pending 3 cfg0 ∧ (h.stream 0).state = .off ∧ (h.bank 0 0).hold ≠ none)
    ∧ (let k := (stream0 (fun t => { t with state := .off }) (withBank 0 (validBank 4) live0)).setClaim 2 (some (0, 0))
      let k := k.modStream 1 fun t => { t with adoption := .pending 3 cfg0 }
      (k.stream 1).adoption = .pending 3 cfg0 ∧ (k.stream 0).state = .off ∧ k.bx.claims[(2 : Fin 4)] = some (0, 0)
      ∧ (k.bank 0 0).state = .valid ∧ cfg0.bankBase.toNat < k.bx.addr 0 0 + (k.bx.geom 0).stride
      ∧ k.bx.addr 0 0 < cfg0.bankBase.toNat + cfg0.bankCount.toNat * 4096
      ∧ gives (exec (.adoptionTakesEffect 1) k) (fun t => t == k) = true) := by
  decide +kernel

theorem witness_StopStreamDrainsOrCloses :
    let on := fun m : State => (posted (plain 0x11) m).onTurn .stopStream 0 (plain 0x11)
    on run0 ∧ (run0.stream 0).state = .off ∧ on (filling .live) ∧ (filling .live).filling 0 ≠ none
    ∧ ((filling .live).stream 0).waitingHold = none ∧ ((filling .live).stream 0).waitingStop = none
    ∧ on live0 ∧ live0.filling 0 = none ∧ (live0.stream 0).state = .live
    ∧ on (stream0 (fun t => { t with freeze := .pending, waitingHold := some 3 }) (waits (.streamController 0) live0))
    ∧ (plain 0x11).target.toNat = 0 ∧ (live0.publish 0).offer = none := by unfold State.onTurn; decide +kernel

theorem witness_HoldAndResumeStream :
    let hold := fun m : State => (posted (plain 0x12) m).onTurn .holdStream 0 (plain 0x12)
    let resume := fun m : State => (posted (plain 0x13) m).onTurn .resumeStream 0 (plain 0x13)
    let frozen := stream0 (fun t => { t with freeze := .pending, waitingHold := some 3 })
      (waits (.streamController 0) (filling .live))
    hold live0 ∧ live0.filling 0 = none ∧ (live0.stream 0).freeze = .none ∧ hold (filling .live)
    ∧ (filling .live).filling 0 ≠ none ∧ hold frozen ∧ resume frozen ∧ (frozen.stream 0).freeze ≠ .none
    ∧ (frozen.stream 0).waitingHold = some 3 ∧ resume live0 := by unfold State.onTurn; decide +kernel

theorem witness_QueriesAnswerCounters :
    (posted (plain 0x14) run0).onTurn .queryStream 0 (plain 0x14)
    ∧ (posted (slot 0x14 0 1 0 0 0 0) (filling .live)).onTurn .queryStream 0 (slot 0x14 0 1 0 0 0 0)
    ∧ (slot 0x14 0 1 0 0 0 0).flags.getLsbD 0 = true
    ∧ (posted (plain 0x33) run0).onTurn .queryPort 0 (plain 0x33) ∧ (plain 0x33).target.toNat = (0 : PortId).val
    ∧ run0.HoldAccounts ∧ (run0.client publicationClient).queue = [] ∧ (run0.client publicationClient).granted = [] := by
  unfold State.onTurn State.HoldAccounts; decide +kernel

theorem witness_PublicationAtCompletion :
    let at0 := fun (s : StreamState) (h : Nat) => { stream0 (fun t => { t with lineCount := 16 })
      (capture0 (fun q => { q with waiting := [.frameEnd] }) (filling s)) with
      pub := { run0.pub with streams := run0.pub.streams.set 0 ⟨0, h, none⟩ } }
    let ok := fun m : State => (m.stream 0).config = some cfg0 ∧ m.filling 0 = some 0
      ∧ (m.stream 0).state ≠ .off ∧ (m.cport 0).waiting = [.frameEnd]
      ∧ (m.cport 0).allFree = true ∧ (m.bx.geom 0).height.toNat ≤ (m.stream 0).lineCount.toNat
    ok (at0 .live 0) ∧ ((at0 .live 0).publish 0).holds ≠ cfg0.holdLimit.toNat ∧ ((at0 .live 0).bank 0 0).hold = none
    ∧ ok (at0 .live 1) ∧ ((at0 .live 1).publish 0).holds = cfg0.holdLimit.toNat ∧ cfg0.publishPolicy = .every
    ∧ ok (at0 .draining 0) ∧ ok (stream0 (fun t => { t with freeze := .pending }) (at0 .live 0)) := by decide +kernel

/-- Stream 0 in a state, with the newest frame, in bank 1, on its way to being lent. -/
def offered0 (s : StreamState) : State := offering 1 (withBank 1 (validBank 5) (withBank 0 (validBank 4) (adopted s)))

theorem witness_PublicationAtCompletion_offers :
    let m := offered0 .live
    let stop := posted (plain 0x11) m
    let grab := posted (plain 0x20) m
    (m.publish 0).offer = some 1 ∧ (m.stream 0).state = .live ∧ m.presentsStart 0 false m.now []
    ∧ (starts0 [] m).presentsStart 0 true 7 [] ∧ (m.stream 0).lossTimer = some 10000
    ∧ stop.onTurn .stopStream 0 (plain 0x11) ∧ (stop.publish 0).offer = some 1
    ∧ grab.onTurn .grab 0 (plain 0x20) ∧ (grab.publish 0).offer = some 1 ∧ (grab.stream 0).config = some cfg0
    ∧ grab.bx.inSet 0 1 = true ∧ (grab.bank 0 1).state = .valid ∧ (grab.bank 0 1).hold = none
    ∧ (∀ j, j ≠ 1 → (grab.bank 0 j).state = .valid → (grab.bank 0 j).seq.toNat < (grab.bank 0 1).seq.toNat)
    ∧ (grab.publish 0).holds ≠ grab.holdLimit 0
    ∧ (let full := posted (plain 0x20) (offering 1 held0)
      full.onTurn .grab 0 (plain 0x20) ∧ (full.publish 0).offer = some 1
      ∧ gives (exec .grab full) (fun t => t.req.inFlight[(0 : Fin 32)] == some ⟨plain 0x20, .publicationUnit, .answering⟩
          && (t.stream 0).counters.publishMissed == 1 && (t.publish 0).offer == none) = true) := by
  unfold State.onTurn State.presentsStart; decide +kernel

/-- A frame end that drains a stream and places a hold makes one status record write, behind the catalog record's: OFF,
with the hold and the STREAM notice (R41, R57, log 37). One that only drains makes it at once. -/
theorem test_frame_end_writes_once :
    let drained := fun lines => stream0 (fun t => { t with lineCount := lines })
      (capture0 (fun q => { q with waiting := [.frameEnd] }) (filling .draining))
    gives (exec (.frameEnd ⟨0, true⟩) (drained 16))
      (fun t => t.reports[(0 : Fin 8)] == [⟨.off, .none, true, 1, true⟩] && (t.client (streamClient 0)).queue.isEmpty
        && (t.client publicationClient).queue.map (·.purpose) == [.catalogWrite 0 0 .published]) = true
    ∧ gives (exec (.frameEnd ⟨0, true⟩) (drained 15))
      (fun t => t.reports[(0 : Fin 8)] == [] && (t.client (streamClient 0)).queue.map (·.purpose) == [.streamStatus true])
        = true := by decide +kernel

/-- A placement that finds its bank taken by the writer is refused and counted, and one that finds it VALID is accepted
(R14, R52). -/
theorem test_late_placement :
    gives (exec (.frameEnd ⟨0, true⟩) (stream0 (fun t => { t with lineCount := 16 })
        (capture0 (fun q => { q with waiting := [.frameEnd] }) (filling .live))))
      (fun t => (t.bank 0 0).state == .valid && (t.bank 0 0).hold == none && (t.publish 0).offer == some 0) = true
    ∧ gives (exec (.frameStart ⟨0, false⟩) (withBank 2 (validBank 6) (withBank 0 (validBank 7) (offered0 .live))))
      (fun t => t.filling 0 == some 1 && (t.stream 0).counters.publishMissed == 1 && (t.publish 0).holds == 0) = true
    ∧ gives (exec (.frameStart ⟨0, false⟩) (offered0 .live))
      (fun t => t.filling 0 == some 2 && (t.bank 0 1).catalog == .held && (t.publish 0).holds == 1) = true
    ∧ gives (exec .grab (posted (plain 0x20) (offered0 .live)))
      (fun t => (t.bank 0 1).hold.map (·.reason) == some .grabbed && (t.stream 0).counters.publishMissed == 1) = true := by
  decide +kernel

theorem witness_GrabLendsNewestUnheld :
    let on := fun m : State => (posted (plain 0x20) m).onTurn .grab 0 (plain 0x20)
    let m := withBank 1 (validBank 4) (withBank 2 (validBank 5) live0)
    let unheld := fun (m : State) (i : BankIx) =>
      m.bx.inSet 0 i = true ∧ (m.bank 0 i).state = .valid ∧ (m.bank 0 i).hold = none
    on run0 ∧ (run0.publish 0).offer = none ∧ (m.publish 0).offer = none ∧ (held0.publish 0).offer = none
    ∧ (run0.stream 0).state = .off ∧ on held0 ∧ (held0.publish 0).holds = held0.holdLimit 0
    ∧ on live0 ∧ (live0.publish 0).holds ≠ live0.holdLimit 0 ∧ (∀ i, ¬ unheld live0 i)
    ∧ on m ∧ (m.stream 0).state ≠ .off ∧ (m.publish 0).holds ≠ m.holdLimit 0 ∧ (m.stream 0).config = some cfg0
    ∧ unheld m 2 ∧ (∀ j, unheld m j → (m.bank 0 j).seq.toNat < (m.bank 0 2).seq.toNat
      ∨ (m.bank 0 j).seq = (m.bank 0 2).seq ∧ 2 ≤ j) := by unfold State.onTurn; decide +kernel

theorem witness_CatalogWriteBringsEffects :
    ∀ ev ∈ ([.adoption none, .adoption (some ⟨3, 0, 0⟩), .published, .grabbed 3 [], .returned, .expired, .haltReclaimed,
        .lateReturn] : List CatalogEvent),
      let m := grantedAt publicationClient (.catalogWrite 7 7 ev) [] run0
      (m.client publicationClient).granted.head?.map (·.burst.purpose) = some (.catalogWrite 7 7 ev)
        ∧ m.req.halting = false
        ∧ { m with req := { m.req with halting := true, sweep := .taking } }.req.sweep = .taking
        ∧ { m with reports := m.reports.set 7 [⟨.live, .none, false, 1, true⟩] }.reports[(7 : Fin 8)]
          = [] ++ ⟨.live, .none, false, 1, true⟩ :: [] := by decide +kernel

theorem witness_RecordWritesRaiseNotices :
    let at0 := fun (c : ClientId) (p : Purpose) =>
      ((grantedAt c p [] run0).client c).granted.head?.map (·.burst.purpose) = some p
    let mirror := fun x => { grantedAt noticeClient .countRecord [] run0 with notice := { run0.notice with mirror := x } }
    at0 requestClient (.answerWrite 0) ∧ at0 (streamClient 7) (.streamStatus true) ∧ at0 (streamClient 0) (.streamStatus false)
    ∧ at0 (portClient 3) (.portStatus 2) ∧ at0 (portClient 0) (.portStatus 0) ∧ at0 noticeClient .countRecord
    ∧ (mirror .issued).notice.mirror = .issued ∧ (mirror .issuedAgain).notice.mirror = .issuedAgain := by decide +kernel

theorem witness_HoldsExpireAndAreReclaimed :
    let m := withBank 0 (heldBank 9) (device .stopping)
    (held0.bank 0 0).hold = some ⟨9, some 500, .published⟩
    ∧ (m.ctl.device = .stopping ∧ (∀ s, (m.stream s).state = .off) ∧ (∀ p, (m.port p).state = .off)
      ∧ m.req.sweep = .idle ∧ (∀ n : SlotId, m.req.inFlight[n] = none) ∧ (m.bank 0 0).catalog = .held)
    ∧ (let off := stream0 (fun t => { t with state := .off }) { held0 with ctl := { run0.ctl with device := .stopping } }
      off.closed = true ∧ off.HoldAccounts ∧ off.bx.heldCount 0 = 1
      ∧ gives (exec .haltReclaim off) (fun t => t.reports[(0 : Fin 8)] == [⟨.off, .none, false, 0, true⟩]) = true)
    ∧ run0.ctl.device ≠ .stopping := by unfold State.HoldAccounts; decide +kernel

theorem witness_OutputFrameShown :
    let m := portIn .showing cueReady (withBank 0 (validBank 4) live0)
    let due := fun m : State => (m.port 0).frameTimer = some 20000 ∧ (m.port 0).framePeriod = some 20000
    let st := fun s => portIn s (.idle true) live0
    let again := (port0 (fun q => { q with claimed := some frame0 }) m).setClaim 0 (some (0, 0))
    let frozen := stream0 (fun t => { t with state := .seeking, freeze := .active }) m
    due m ∧ (m.port 0).raster = some ⟨64, 64⟩ ∧ (m.port 0).state = .showing ∧ due (st .parked) ∧ ((st .parked).port 0).state = .parked ∧ due (st .stalled)
    ∧ ((st .stalled).port 0).state = .stalled
    ∧ ((m.stream 0).state = .live ∧ m.bx.inSet 0 0 = true ∧ (m.bank 0 0).state = .valid
      ∧ ∀ i, m.bx.inSet 0 i = true ∧ (m.bank 0 i).state = .valid → i = 0)
    ∧ ((frozen.stream 0).state = .seeking ∧ (frozen.stream 0).freeze = .active)
    ∧ (again.bx.claims[(0 : PortId)] = some (0, 0) ∧ (again.port 0).claimed = some frame0)
    ∧ gives (exec (.outputFrameStart 0) m)
      (fun t => (t.port 0).state == .showing && (t.port 0).current.map (·.cue.source) == some (.stream 0)) = true
    ∧ gives (exec (.outputFrameStart 0) (st .stalled)) (fun t => (t.port 0).state == .stalled) = true := by decide +kernel

theorem witness_OutputChainAdvances :
    let at0 := fun (s : PortState) (w : WalkerState) => portIn s w run0
    let ind := fun (s : PortState) (w : WalkerState) => ((at0 s w).walker 0).indication
    let spliced := fun t => port0 (fun q => { q with splice := some ⟨t, 0x6020, 3⟩, dwell := 2 }) (at0 .showing headReady)
    ((at0 .showing headReady).port 0).frameTimer = some 20000
    ∧ (ind .showing headReady = .head 0x6020 cue0 ∧ ((at0 .showing headReady).port 0).dwell = 1)
    ∧ (((spliced .nextFrame).port 0).splice.any (fun sp => sp.timing == .nextFrame) = true)
    ∧ ind .parked headReady = .head 0x6020 cue0 ∧ ind .stalled headReady = .head 0x6020 cue0
    ∧ (((spliced .cueEnd).port 0).state = .showing ∧ ((spliced .cueEnd).port 0).dwell ≠ 1
      ∧ ((spliced .cueEnd).port 0).dwell ≠ 0)
    ∧ ind .showing cueReady = .cue 0x6040 cue0 ∧ ind .parked cueReady = .cue 0x6040 cue0
    ∧ ind .showing badCueReady = .fault 0x6060 ∧ ind .parked badCueReady = .fault 0x6060
    ∧ ind .showing .fetching = .notYet ∧ ind .showing (.idle true) = .atEnd
    ∧ ind .parked (.idle true) = .atEnd ∧ ind .stalled (.idle false) = .nothing := by decide +kernel

theorem witness_StartingAndStoppingPort :
    let starting := port0 (fun q => { q with waiting := some (.startPort 3) }) (portIn .starting headReady run0)
    let stopping := port0 (fun q => { q with waiting := some (.stopPort 3), splice := some ⟨.cueEnd, 0x6020, 5⟩ })
      (portFetching .stopping 0x6020 .head run0)
    let wait := portFetching .starting 0x6020 .head run0
    ((starting.port 0).frameTimer = some 20000 ∧ (starting.port 0).framePeriod = some 20000
      ∧ (starting.port 0).state = .starting ∧ (starting.walker 0).indication = .head 0x6020 cue0
      ∧ (starting.port 0).waiting = some (.startPort 3))
    ∧ ((wait.port 0).state = .starting ∧ (wait.walker 0).indication = .notYet)
    ∧ ((stopping.port 0).state = .stopping ∧ (stopping.port 0).frameTimer = some 20000
      ∧ (stopping.port 0).waiting = some (.stopPort 3) ∧ (stopping.port 0).splice = some ⟨.cueEnd, 0x6020, 5⟩) := by
  decide +kernel

theorem witness_ScanOutKeepsUp :
    let m := port0 (fun q => { q with shown := .bank frame0 ⟨1, 2, 3⟩, buffer := #v[.reading 0 [], .reading 1 []], nextRow := 2 })
      (portIn .showing (.idle true) run0)
    let read := grantedAt (.scan 0) (.scanRow 0) [1, 2] m
    let given := { m with arb := m.arb.setClient (.scan 0) ⟨[], [⟨⟨.scanRow 0, 0, .read 1⟩, [1], [], true⟩]⟩ }
    let line15 := port0 (fun q => { q with linkLine := 15, buffer := #v[.reading 15 [], .free] }) m
    let ready := port0 (fun q => { q with buffer := #v[.ready 0 [], .reading 1 []] }) m
    ((read.client (.scan 0)).granted.head?.map (fun g => (g.burst.purpose, g.discarded)) = some (.scanRow 0, false)
      ∧ (read.port 0).buffer[(0 : Fin 2)] = .reading 0 [])
    ∧ ((given.client (.scan 0)).granted.head?.map (·.discarded) = some true)
    ∧ ((m.port 0).raster = some ⟨64, 64⟩ ∧ (m.port 0).linkLine < min frame0.height.toNat 64 ∧ (m.port 0).underran = false)
    ∧ ((line15.port 0).linkLine < min frame0.height.toNat 64 ∧ (line15.port 0).buffer[(0 : Fin 2)] = .reading 15 [])
    ∧ ((ready.port 0).shown ≠ .idle ∧ (ready.port 0).linkLine < 64 ∧ (ready.port 0).lineMayEnd = true
      ∧ (ready.port 0).nextRow < min frame0.height.toNat 64 ∧ (ready.port 0).buffer[(1 : Fin 2)] ≠ .free)
    ∧ (m.port 0).lineMayEnd = false
    ∧ (let last := port0 (fun q => { q with buffer := #v[.ready 0 [], .ready 1 []], nextRow := 16 }) m
      min frame0.height.toNat 64 ≤ (last.port 0).nextRow ∧ (last.port 0).lineMayEnd = true
      ∧ gives (exec (.outputLineEnd 0) last) (fun t => (t.port 0).buffer == #v[.free, .ready 1 []]) = true) := by
  decide +kernel

theorem witness_OutputLineContents :
    let q := fun (b : ClaimedBank) (d : List Byte) => { Port.reset with
      raster := some ⟨64, 64⟩, shown := .bank b ⟨1, 2, 3⟩, buffer := #v[.reading 0 d, .free] }
    Port.reset.linkRow = none ∧ { q frame0 [] with shown := .idle }.linkRow = none
    ∧ (q frame0 [9, 8]).buffer[(0 : Fin 2)] = .reading (q frame0 [9, 8]).linkLine [9, 8]
    ∧ (∀ e : Fin 2, { q frame0 [] with linkLine := 5 }.buffer[e].row ≠ some 5) ∧ (q frame0 []).raster = some ⟨64, 64⟩ ∧ (q frame0 [9, 8]).linkRow = some frame0
    ∧ (q frame0 [9, 8]).lineData.length ≤ 64 * frame0.format.bytesPerPixel
    ∧ (q { frame0 with format := .y8 } [9]).linkRow = some { frame0 with format := .y8 }
    ∧ (q { frame0 with format := .y8 } [9]).lineData.length = 1 := by decide +kernel

theorem witness_CueReadsDecided :
    let at0 := fun (s : PortState) (o : Origin) (bs : List Byte) =>
      grantedAt (portClient 0) .cueRead bs (portFetching s 0x6040 o run0)
    let skip := cueData 0 1 0x6060
    let spliced := port0 (fun q => { q with splice := some ⟨.cueEnd, 0x6040, 3⟩ }) (at0 .showing .head (zeros 32))
    (((at0 .showing .link skip).client (portClient 0)).granted.head?.map (·.burst.purpose) = some .cueRead
      ∧ ((at0 .showing .link skip).walker 0).state = .fetching
      ∧ ((at0 .showing .link skip).walker 0).fetchOrigin = .link ∧ ((at0 .showing .head skip).walker 0).fetchOrigin = .head
      ∧ ((at0 .showing .link skip).walker 0).discardedRead = false)
    ∧ decodeCue (zeros 32) = none ∧ (decodeCue skip).map (fun c => (c.skipIfLost, c.source, c.link))
      = some (true, .stream 0, some 0x6060)
    ∧ (run0.stream 0).state ≠ .live ∧ (6 : Nat) < 7 ∧ 7 ≤ (7 : Nat)
    ∧ (decodeCue (cueData 0 1 0xFFFFFFFF)).map (·.link) = some none ∧ (decodeCue (cueData 15 0 0x6060)).isSome = true
    ∧ ((at0 .starting .head (zeros 32)).port 0).state = .starting
    ∧ ((spliced.port 0).splice = some ⟨.cueEnd, 0x6040, 3⟩ ∧ (spliced.port 0).state ≠ .starting)
    ∧ (((at0 .showing .head []).modWalker 0 fun w => { w with discardedRead := true }).walker 0).discardedRead = true := by
  decide +kernel

theorem witness_StartPortAccepted :
    let r := fun (w h t head : Word) => slot 0x30 3 0 w h t head
    let on := fun (q : Request) (m : State) => (posted q m).onTurn .startPort 0 q
    (∀ q ∈ [r 64 2048 10000 0x3FFFFFE0, r 2048 64 100000 0, r 63 64 10000 0, r 64 64 100001 0, r 64 64 10000 0x40000000],
      on q run0 ∧ q.target.toNat = 3)
    ∧ on (slot 0x30 0 0 64 64 20000 0) (portIn .showing (.idle true) run0)
    ∧ ((portIn .showing (.idle true) run0).port 0).state ≠ .off ∧ (run0.port 3).state = .off
    ∧ (run0.walker 3).state = .idle false := by unfold State.onTurn; decide +kernel

theorem witness_SpliceAndStopPort :
    let on := fun (k : RequestKind) (q : Request) (m : State) => (posted q m).onTurn k 0 q
    let sp := fun head => slot 0x31 0 0 head 0 0 0
    let at0 := fun s => portFetching s 0x6040 .head run0
    let spliced := port0 (fun q => { q with splice := some ⟨.cueEnd, 0x6040, 3⟩ }) (at0 .showing)
    on .splice (sp 0) (at0 .showing) ∧ on .splice (sp 0x3FFFFFE0) (at0 .showing) ∧ on .splice (sp 16) (at0 .showing)
    ∧ on .splice (sp 0x40000000) (at0 .showing) ∧ (sp 16).target.toNat = 0
    ∧ on .splice (sp 0) (at0 .off) ∧ on .splice (sp 0) spliced ∧ (spliced.port 0).splice = some ⟨.cueEnd, 0x6040, 3⟩
    ∧ (∀ s ∈ [PortState.off, .starting, .showing, .parked, .stalled, .stopping],
      on .stopPort (plain 0x32) (at0 s) ∧ ((at0 s).port 0).state = s) := by unfold State.onTurn; decide +kernel

/-- A directory of five words after the version, and its bytes. -/
def dirWith (mark version table board slots catalog status period : Nat) : List Byte :=
  [mark, version, table, board, slots, catalog, status, period].flatMap (leBytes 4) ++ zeros 32

theorem witness_DirectoryChecks :
    let mark := 0x6E7A3430
    directoryFault 0x1000 (dirWith 1 1 0x2000 0x3000 4 0x4000 0x5000 8) = some .badMark
    ∧ directoryFault 0x1000 (dirWith mark 2 0x2000 0x3000 4 0x4000 0x5000 8) = some .badVersion
    ∧ directoryFault 0x1000 (dirWith mark 1 0x2000 0x3000 33 0x4000 0x5000 8) = some .badSlotCount
    ∧ directoryFault 0x1000 (dirWith mark 1 0x2000 0x3000 0 0x4000 0x5000 8) = some .badSlotCount
    ∧ directoryFault 0x1000 (dirWith mark 1 0x2000 0x3000 32 0x4000 0x5000 256) = some .badPeriod
    ∧ directoryFault 0x1000 (dirWith mark 1 0x3FFFFE40 0x3000 1 0x4000 0x5000 255) = some .badRegion
    ∧ directoryFault 0x1000 (dirWith mark 1 0x2000 0x3000 32 0x3000 0x5000 1) = some .regionOverlap
    ∧ directoryFault 0x1000 (dirWith mark 1 0x3FFFFE00 0x3000 32 0x4000 0x5000 1) = none := by decide +kernel

theorem witness_LoadReadsDirectory :
    let due := { device .loading with ctl := { (device .loading).ctl with load := .toIssue } }
    let at0 := fun (p : Purpose) (d : List Byte) (r : Bool) =>
      let m := grantedAt (.control 0) p d (device .loading)
      { m with ctl := { m.ctl with run := r } }
    due.ctl.load = .toIssue ∧ due.ep.windowAhead = 0 ∧ { due with ep := { due.ep with windowAhead := 1 } }.ep.windowAhead ≠ 0
    ∧ ((at0 .directoryRead dirData true).client (.control 0)).granted.head?.map (·.burst.purpose) = some .directoryRead
    ∧ directoryFault 0x1000 dirData = none ∧ directoryFault 0x1000 (zeros 64) = some .badMark
    ∧ (at0 .directoryRead dirData true).ctl.run = true ∧ (at0 .directoryRead dirData false).ctl.run = false
    ∧ ((at0 (.statusInit true) [] false).client (.control 0)).granted.head?.map (·.burst.purpose)
      = some (.statusInit true) := by decide +kernel

theorem witness_HaltCompletes :
    let done := fun m : State => m.ctl.device = .stopping ∧ (∀ s, (m.stream s).state = .off) ∧ (∀ p, (m.port p).state = .off)
      ∧ m.req.sweep = .idle ∧ (∀ n : SlotId, m.req.inFlight[n] = none) ∧ (∀ s i, (m.bank s i).catalog ≠ .held)
      ∧ (∀ k : Fin 16, (m.client (.control k)).queue = [] ∧ (m.client (.control k)).granted = [])
      ∧ m.notice.mirror = .none
    done (device .stopping) ∧ ¬ done run0 ∧ ¬ done (withBank 0 (heldBank 9) (device .stopping)) := by decide +kernel

/-- A state in which each of the properties that steps keep holds: a frame is FILLING in bank 1, bank 0 is claimed and
held, and a capture burst is queued. -/
def busy0 : State :=
  let m := withBank 0 (heldBank 9) (withBank 1 fillBank (filling .live))
  let m := port0 (fun q => { q with state := .showing, claimed := some frame0 }) (m.setClaim 0 (some (0, 0)))
  let m := queued (.capture 0) ⟨.captureLine 15, 0x101000 + 15 * 64 , .write [1, 2]⟩ m
  let m := capture0 (fun q => { q with buffer := #v[some ⟨15, [], 2, true⟩, none], waiting := [.frameEnd] }) m
  { m with
    mem := [(5, 6)], pub := { m.pub with streams := m.pub.streams.set 0 ⟨0, 1, none⟩ }, ctl := { m.ctl with dirbase := 0x3FFFF000 }
    arb := { m.arb with windowFloor := 15, controlFloor := 7 }, walkers := m.walkers.set 3 ⟨.idle false, 0, .link, 7, false⟩ }

theorem witness_StepKeepsMemoryCanonical :
    Memory.wf busy0.mem = true ∧ step busy0 = .next busy0.tick := ⟨by decide +kernel, rfl⟩

theorem witness_StepKeepsMarkedBanksValid :
    busy0.MarkedValid ∧ busy0.bx.marked 0 0 = true ∧ step busy0 = .next busy0.tick :=
  ⟨by unfold State.MarkedValid; decide +kernel, by decide +kernel, rfl⟩

theorem witness_StepKeepsAccounts :
    busy0.StreamAccounts ∧ busy0.PortAccounts ∧ busy0.HoldAccounts ∧ busy0.ReportsAgree ∧ step busy0 = .next busy0.tick :=
  ⟨by unfold State.StreamAccounts; decide +kernel, by unfold State.PortAccounts; decide +kernel,
    by unfold State.HoldAccounts; decide +kernel, by unfold State.ReportsAgree; decide +kernel, rfl⟩

theorem witness_StepKeepsClaimsAndBounds :
    busy0.ClaimsAgree ∧ busy0.FloorBounds ∧ busy0.HopBounds ∧ busy0.DirbaseAligned ∧ step busy0 = .next busy0.tick :=
  ⟨by unfold State.ClaimsAgree; decide +kernel, by unfold State.FloorBounds; decide +kernel,
    by unfold State.HopBounds; decide +kernel, by unfold State.DirbaseAligned; decide +kernel, rfl⟩

theorem witness_WrittenRecordLayouts : (0xFFFFFFFF : Nat) < 2 ^ 32 := by decide

theorem witness_StepKeepsCaptureSafe : busy0.CaptureSafe ∧ step busy0 = .next busy0.tick := by
  refine ⟨fun s => ⟨fun b hb => ?_, fun e l hl => ?_, ?_⟩, rfl⟩
  · have h : ∀ (s : StreamId), ∀ b ∈ (busy0.client (.capture s)).queue,
        s = 0 ∧ b = busy0.lineBurst 0 1 15 0 [1, 2] := by decide +kernel
    obtain ⟨rfl, rfl⟩ := h s b hb
    exact ⟨1, 15, 0, [1, 2], 0, ⟨15, [], 2, true⟩, by decide +kernel⟩
  · have h : ∀ (s : StreamId) (e : Fin 2), (busy0.cport s).buffer[e] = none
        ∨ s = 0 ∧ (busy0.cport s).buffer[e] = some ⟨15, [], 2, true⟩ := by decide +kernel
    rcases h s e with h | ⟨rfl, h⟩
    · rw [h] at hl; nomatch hl
    · rw [h] at hl
      obtain rfl := Option.some.inj hl
      decide +kernel
  · have h : ∀ s : StreamId, ((busy0.filling s).isNone = true → (busy0.cport s).allFree = true)
        ∧ busy0.bx.fillingCount s ≤ 1 ∧ ((busy0.stream s).state = .off → busy0.filling s = none)
        ∧ ((busy0.stream s).adoption ≠ .none → (busy0.stream s).state = .off) := by decide +kernel
    exact h s

end Sys2Proof.Tests
end

/-! # NOP (R132)

The request unit's own work changes two parts of the state: the request unit, and the bursts its client has issued.
`State.requestWork` names that, and each step of a taking is such work. The layout of an answer is read off the 128
bytes field by field, and the completion of an answer write raises ANSWERED. -/

namespace Sys2Proof.Machine

/-! ## Fields of a record -/

@[simp] theorem leBytes_length (n v : Nat) : (leBytes n v).length = n := by
  induction n generalizing v with
  | zero => rfl
  | succ n ih => simp [leBytes, ih]

@[simp] theorem zeros_length (n : Nat) : (zeros n).length = n := List.length_replicate

/-- A field that is wide enough spells the number written into it. -/
theorem leNat_leBytes {n v : Nat} (h : v < 256 ^ n) : leNat (leBytes n v) = v := by
  induction n generalizing v with
  | zero => exact (Nat.lt_one_iff.mp h).symm
  | succ n ih =>
    have hq : v / 256 < 256 ^ n := Nat.div_lt_of_lt_mul (by rwa [Nat.pow_succ'] at h)
    simp only [leBytes, leNat, ih hq, BitVec.toNat_ofNat]
    omega

/-- A field that ends before the second part of a record lies in the first. -/
theorem fieldNat_append_left {xs : List Byte} (ys : List Byte) {off len : Nat} (h : off + len ≤ xs.length) :
    fieldNat (xs ++ ys) off len = fieldNat xs off len := by
  rw [fieldNat, fieldNat, List.drop_append_of_le_length (by omega),
    List.take_append_of_le_length (by rw [List.length_drop]; omega)]

/-- A field that starts behind the first part of a record lies in the second. -/
theorem fieldNat_append_right {xs : List Byte} (ys : List Byte) {off : Nat} (len : Nat) (h : xs.length ≤ off) :
    fieldNat (xs ++ ys) off len = fieldNat ys (off - xs.length) len := by
  rw [fieldNat, fieldNat, List.drop_append, List.drop_of_length_le h, List.nil_append]

theorem fieldNat_leBytes {n v : Nat} (h : v < 256 ^ n) : fieldNat (leBytes n v) 0 n = v := by
  rw [fieldNat, List.drop_zero, List.take_of_length_le (Nat.le_of_eq (leBytes_length n v)), leNat_leBytes h]

/-- The bytes of a list of words, one word behind the other. -/
def wordBytes (ws : List Word) : List Byte := ws.flatMap fun w => leBytes 4 w.toNat

theorem wordBytes_cons (w : Word) (ws : List Word) : wordBytes (w :: ws) = leBytes 4 w.toNat ++ wordBytes ws := rfl

@[simp] theorem wordBytes_length (ws : List Word) : (wordBytes ws).length = 4 * ws.length := by
  induction ws with
  | nil => rfl
  | cons w ws ih =>
    rw [wordBytes_cons, List.length_append, leBytes_length, ih, List.length_cons]
    omega

/-- Word `k` of a list of words lies at offset `4 * k`. -/
theorem fieldWord_wordBytes {ws : List Word} {k : Nat} (hk : k < ws.length) :
    fieldWord (wordBytes ws) (4 * k) = ws[k] := by
  induction ws generalizing k with
  | nil => exact absurd hk (Nat.not_lt_zero k)
  | cons w ws ih =>
    cases k with
    | zero =>
      rw [fieldWord, wordBytes_cons, fieldNat_append_left _ (by simp), Nat.mul_zero, fieldNat_leBytes (n := 4) w.isLt]
      simp
    | succ k =>
      have hk' : k < ws.length := by simpa using hk
      rw [fieldWord, wordBytes_cons, fieldNat_append_right _ _ (by rw [leBytes_length]; omega), leBytes_length,
        Nat.mul_succ, Nat.add_sub_cancel]
      simpa [fieldWord] using ih hk'

/-! ## The layout of an answer (R128, R183) -/

@[simp] theorem resultWords_length (rs : List Word) : (resultWords rs).length = 16 := by simp [resultWords]

/-- The result words are the words given, then zeros. -/
theorem resultWords_getElem (rs : List Word) {k : Nat} (hk : k < (resultWords rs).length) :
    (resultWords rs)[k] = if h : k < rs.length then rs[k] else 0 := by
  simp only [resultWords, List.getElem_take, List.getElem_append, List.getElem_replicate]

@[simp] theorem Answer.results_length (ans : Answer) : ans.results.length = 16 := by
  cases ans <;> exact resultWords_length _

theorem Answer.codes_lt (ans : Answer) : ans.codes.1 < 256 ^ 4 ∧ ans.codes.2 < 256 ^ 4 := by
  cases ans with
  | done rs => simp [Answer.codes, slotDone]
  | refused c => cases c <;> decide

/-- The 36 bytes of an answer before its code: the state word and the request as it was taken. -/
def answerHead (r : Request) (ans : Answer) : List Byte :=
  leBytes 4 ans.codes.1 ++ leBytes 2 r.kind.toNat ++ leBytes 1 r.target.toNat ++ leBytes 1 r.flags.toNat
    ++ leBytes 2 r.tag.toNat ++ zeros 2 ++ wordBytes r.args.toList

theorem answerBytes_eq (r : Request) (ans : Answer) (time : Dword) :
    answerBytes r ans time
      = answerHead r ans ++ leBytes 4 ans.codes.2 ++ wordBytes ans.results ++ leBytes 8 time.toNat ++ zeros 16 := rfl

@[simp] theorem answerHead_length (r : Request) (ans : Answer) : (answerHead r ans).length = 36 := by
  simp [answerHead]

section
variable (r : Request) (ans : Answer) (time : Dword)

@[simp] theorem answerBytes_length : (answerBytes r ans time).length = 128 := by simp [answerBytes_eq]

theorem answerBytes_state : fieldNat (answerBytes r ans time) 0x00 4 = ans.codes.1 := by
  simp only [answerBytes, List.append_assoc]
  rw [fieldNat_append_left _ (by simp), fieldNat_leBytes ans.codes_lt.1]

theorem answerBytes_code : fieldNat (answerBytes r ans time) 0x24 4 = ans.codes.2 := by
  simp only [answerBytes_eq, List.append_assoc]
  rw [fieldNat_append_right _ _ (by simp), fieldNat_append_left _ (by simp), answerHead_length, Nat.sub_self,
    fieldNat_leBytes ans.codes_lt.2]

theorem answerBytes_result {k : Nat} (hk : k < 16) :
    fieldWord (answerBytes r ans time) (0x28 + 4 * k) = ans.results[k]'(by simpa using hk) := by
  have hoff : 0x28 + 4 * k - (answerHead r ans ++ leBytes 4 ans.codes.2).length = 4 * k := by simp
  rw [← fieldWord_wordBytes, fieldWord, fieldWord, answerBytes_eq, List.append_assoc, List.append_assoc,
    fieldNat_append_right _ _ (by simp), hoff, fieldNat_append_left _ (by simp; omega)]

theorem answerBytes_time : fieldNat (answerBytes r ans time) 0x68 8 = time.toNat := by
  rw [answerBytes_eq, fieldNat_append_left _ (by simp), fieldNat_append_right _ _ (by simp)]
  simp [fieldNat_leBytes (n := 8) time.isLt]

end

/-! ## The request unit's own work -/

/-- Of two replacements of one client's bursts the second remains. -/
theorem Arbiter.setClient_setClient (a : Arbiter) (c : ClientId) (x y : Client) :
    (a.setClient c x).setClient c y = a.setClient c y := by
  cases c <;> simp [Arbiter.setClient]

theorem Arbiter.setClient_client (a : Arbiter) (c : ClientId) : a.setClient c (a.client c) = a := by
  cases c <;> simp [Arbiter.setClient, Arbiter.client]

theorem Arbiter.issueAll_nil (a : Arbiter) (c : ClientId) : a.issueAll c [] = a := by
  rw [Arbiter.issueAll, List.append_nil, Arbiter.setClient_client]

theorem Arbiter.issueAll_issueAll (a : Arbiter) (c : ClientId) (bs cs : List Burst) :
    (a.issueAll c bs).issueAll c cs = a.issueAll c (bs ++ cs) := by
  simp [Arbiter.issueAll, Arbiter.setClient_setClient]

/-- The request unit becomes `u` and issues `bs`; nothing else changes. -/
def State.requestWork (m : State) (u : RequestUnit) (bs : List Burst) : State :=
  { m with req := u, arb := m.arb.issueAll requestClient bs }

section
variable (m : State)

theorem State.modReq_eq_requestWork (f : RequestUnit → RequestUnit) : m.modReq f = m.requestWork (f m.req) [] := by
  simp [State.modReq, State.requestWork, Arbiter.issueAll_nil]

@[simp] theorem State.requestWork_req (u : RequestUnit) (bs : List Burst) : (m.requestWork u bs).req = u := rfl

@[simp] theorem State.requestWork_modReq (f : RequestUnit → RequestUnit) (u : RequestUnit) (bs : List Burst) :
    (m.modReq f).requestWork u bs = m.requestWork u bs := rfl

@[simp] theorem State.requestWork_requestWork (u v : RequestUnit) (bs cs : List Burst) :
    (m.requestWork u bs).requestWork v cs = m.requestWork v (bs ++ cs) := by
  simp [State.requestWork, Arbiter.issueAll_issueAll]

theorem State.client_requestWork (u : RequestUnit) (bs : List Burst) (c : ClientId) :
    (m.requestWork u bs).client c = (m.issueAll requestClient bs).client c := rfl

theorem State.queue_requestWork (u : RequestUnit) (bs : List Burst) :
    ((m.requestWork u bs).client requestClient).queue = (m.client requestClient).queue ++ bs := by
  simp [State.client_requestWork, State.client_issueAll]

/-- The request unit's work touches no other block. -/
theorem State.requestWork_frame (u : RequestUnit) (bs : List Burst) :
    { m.requestWork u bs with req := m.req, arb := m.arb } = m := rfl

theorem State.requestWork_otherClientsSame (u : RequestUnit) (bs : List Burst) :
    m.otherClientsSame (m.requestWork u bs) [requestClient] := by
  refine ⟨fun c hc => ?_, rfl, rfl, rfl, rfl, rfl, rfl⟩
  have hne : requestClient ≠ c := fun h => hc (by simp [h])
  rw [State.client_requestWork, State.client_issueAll, if_neg hne]

end

/-! ## How phase TAKING moves on (R121, R124) -/

theorem State.beginBoard_work (m : State) :
    ∃ u bs, m.beginBoard = m.requestWork u bs ∧ u.inFlight = m.req.inFlight :=
  ⟨{ m.req with sweep := .board, board := [], nextSlot := 0 }, m.boardBursts, rfl, rfl⟩

theorem State.beginSweep_work (m : State) :
    ∃ u bs, m.beginSweep = m.requestWork u bs ∧ u.inFlight = m.req.inFlight := by
  unfold State.beginSweep
  dsimp only
  split
  · exact State.beginBoard_work (m.modReq _)
  · exact ⟨{ m.req with sweep := .returns, sweepPending := false }, m.returnBursts, rfl, rfl⟩

/-- With no halt in progress a sweep's end changes no entry of the in-flight set, and only a pending sweep issues
bursts. -/
theorem State.endSweep_work (m : State) (hh : m.req.halting = false) :
    ∃ u bs, m.endSweep = m.requestWork u bs ∧ u.inFlight = m.req.inFlight
      ∧ (m.req.sweepPending = false → bs = []) := by
  simp only [State.endSweep, State.modReq_req, hh, Bool.false_eq_true, if_false]
  split
  · next hp =>
    obtain ⟨u, bs, hb, hu⟩ := State.beginSweep_work (m.modReq fun u => { u with sweep := .idle })
    rw [State.requestWork_modReq] at hb
    exact ⟨u, bs, hb, hu, fun h => by simp [h] at hp⟩
  · exact ⟨_, _, State.modReq_eq_requestWork m _, rfl, fun _ => rfl⟩

/-- With no halt in progress phase TAKING moves on to a later slot or to the sweep's end. -/
theorem State.advance_work (m : State) (hh : m.req.halting = false) :
    ∃ u bs, m.advance = m.requestWork u bs ∧ u.inFlight = m.req.inFlight
      ∧ (m.req.sweepPending = false → bs = []) := by
  simp only [State.advance, hh, Bool.false_eq_true, if_false]
  split
  · split
    · exact ⟨_, _, State.modReq_eq_requestWork m _, rfl, fun _ => rfl⟩
    · exact State.endSweep_work (m.modReq _) hh
  · exact ⟨_, _, State.modReq_eq_requestWork m id, rfl, fun _ => rfl⟩

/-! ## A slot answered at taking (R125, R127, R128) -/

/-- A slot is on turn only while no halt is in progress (R134). -/
theorem State.halting_of_turn {m : State} {q : SlotId × Request} (h : m.turn = some q) : m.req.halting = false := by
  unfold State.turn at h
  split at h
  · next hc =>
    obtain ⟨-, -, hh⟩ := hc
    exact hh
  · cases h

/-- The answer reported for a WAITING slot. -/
theorem State.report_waiting {m : State} {n : SlotId} {e : InFlight} (ans : Answer) (he : m.req.inFlight[n] = some e)
    (hw : e.phase = .waiting) :
    m.report n ans = m.requestWork { m.req with inFlight := m.req.inFlight.set n (some { e with phase := .answering }) }
      [m.answerBurst n e.request ans] := by
  simp only [State.report, he, hw]
  rfl

/-- The request unit with the request of slot `n` entered in the in-flight set in phase `ph`, and past slot `n`. -/
def RequestUnit.enter (u : RequestUnit) (n : SlotId) (r : Request) (ph : EntryPhase) : RequestUnit :=
  { u with inFlight := u.inFlight.set n (some ⟨r, r.owner, ph⟩), nextSlot := n.val + 1 }

theorem State.markTaken_work (m : State) (n : SlotId) (r : Request) :
    m.markTaken n r = m.requestWork (m.req.enter n r .waiting) [m.takenBurst n] := rfl

/-- A slot marked TAKEN and answered in one step: the TAKEN write goes before the answer write. -/
theorem State.report_markTaken (m : State) (n : SlotId) (r : Request) (ans : Answer) :
    (m.markTaken n r).report n ans
      = m.requestWork (m.req.enter n r .answering) [m.takenBurst n, m.answerBurst n r ans] := by
  have he : (m.markTaken n r).req.inFlight[n] = some ⟨r, r.owner, .waiting⟩ := by
    simp [State.markTaken_work, RequestUnit.enter]
  have hburst : (m.markTaken n r).answerBurst n r ans = m.answerBurst n r ans := rfl
  rw [State.report_waiting ans he rfl, hburst, State.markTaken_work, State.requestWork_requestWork]
  simp [RequestUnit.enter]

/-- The slot on turn, decided by an answer at taking: the request unit alone works, and behind the two writes only a
pending sweep issues further bursts. -/
theorem State.take_answered {m : State} {n : SlotId} {r : Request} {kind : Option RequestKind}
    {decision : SlotId → Request → State → State} {ans : Answer} (ht : m.turn = some (n, r))
    (hk : RequestKind.ofCode r.kind = kind)
    (hd : decision n r (m.markTaken n r) = (m.markTaken n r).report n ans) :
    ∃ u bs, m.take kind decision = m.requestWork u ([m.takenBurst n, m.answerBurst n r ans] ++ bs)
      ∧ u.inFlight = m.req.inFlight.set n (some ⟨r, r.owner, .answering⟩) ∧ (m.req.sweepPending = false → bs = []) := by
  simp only [State.take, ht, hk, if_true, hd, State.report_markTaken]
  have hh : (m.req.enter n r .answering).halting = false := State.halting_of_turn ht
  obtain ⟨u, bs, ha, hu, hp⟩ := State.advance_work
    (m.requestWork (m.req.enter n r .answering) [m.takenBurst n, m.answerBurst n r ans]) hh
  exact ⟨u, bs, by rw [ha, State.requestWork_requestWork], hu, hp⟩

/-- Such work is what the statements call answered at taking. -/
theorem State.answeredAtTaking_requestWork {m : State} {n : SlotId} {r : Request} {ans : Answer} {u : RequestUnit}
    {bs : List Burst} (hu : u.inFlight = m.req.inFlight.set n (some ⟨r, r.owner, .answering⟩))
    (hbs : m.req.sweepPending = false → bs = []) :
    m.answeredAtTaking (m.requestWork u ([m.takenBurst n, m.answerBurst n r ans] ++ bs)) n r ans := by
  refine ⟨hu, ?_, fun h => ?_⟩ <;> rw [State.queue_requestWork, ← List.append_assoc]
  · exact ⟨bs, rfl⟩
  · rw [hbs h, List.append_nil]

/-! ## A raise (R160) -/

section
variable (m : State)

theorem State.askMessage_notice :
    m.askMessage.notice.pending = m.notice.pending ∧ m.askMessage.notice.counts = m.notice.counts := by
  unfold State.askMessage
  split
  · exact ⟨rfl, rfl⟩
  · split <;> exact ⟨rfl, rfl⟩

theorem State.setNotices_notice (pending enable : BitVec 6) :
    (m.setNotices pending enable).notice.pending = pending
      ∧ (m.setNotices pending enable).notice.counts = m.notice.counts := by
  unfold State.setNotices
  dsimp only
  split
  · split <;> exact ⟨rfl, rfl⟩
  · split
    · exact State.askMessage_notice _
    · exact ⟨rfl, rfl⟩

theorem State.askMirror_notice :
    m.askMirror.notice.pending = m.notice.pending ∧ m.askMirror.notice.counts = m.notice.counts := by
  unfold State.askMirror
  split <;> exact ⟨rfl, rfl⟩

/-- A raise adds its kind to the pending set and 1 to the kind's count. -/
theorem State.raise_notice (k : NoticeKind) :
    (m.raise k).notice.pending = m.notice.pending ||| k.bit
      ∧ (m.raise k).notice.counts = m.notice.counts.set k.index (m.notice.counts[k.index] + 1) := by
  unfold State.raise
  dsimp only
  split
  · simp only [State.askMirror_notice, State.setNotices_notice]
    exact ⟨rfl, rfl⟩
  · simp only [State.setNotices_notice]
    exact ⟨rfl, rfl⟩

end

/-! ## NOP -/

theorem exec_nop_eq (m : State) : exec .nop m = execNop m := rfl

theorem exec_answerWriteComplete_eq (m : State) : exec .answerWriteComplete m = execAnswerWriteComplete m := rfl

/-- The 128 bytes that answer a NOP (R132, R183). -/
theorem nop_answerBytes (r : Request) (time : Dword) :
    let bytes := answerBytes r (.done r.args.toList) time
    bytes.length = 128 ∧ fieldNat bytes 0x00 4 = 3 ∧ fieldNat bytes 0x24 4 = 0
      ∧ (∀ k : Fin 6, fieldWord bytes (0x28 + 4 * k.val) = r.args[k])
      ∧ (∀ k : Fin 10, fieldWord bytes (0x40 + 4 * k.val) = 0)
      ∧ fieldNat bytes 0x68 8 = time.toNat := by
  refine ⟨answerBytes_length _ _ _, answerBytes_state _ _ _, answerBytes_code _ _ _, fun k => ?_, fun k => ?_,
    answerBytes_time _ _ _⟩
  · have hin : k.val < r.args.toList.length := by rw [Vector.length_toList]; exact k.isLt
    rw [answerBytes_result _ _ _ (by omega)]
    simp only [Answer.results]
    rw [resultWords_getElem, dif_pos hin, Vector.getElem_toList]
    rfl
  · have hoff : 0x40 + 4 * k.val = 0x28 + 4 * (6 + k.val) := by omega
    have hout : ¬ 6 + k.val < r.args.toList.length := by rw [Vector.length_toList]; omega
    rw [hoff, answerBytes_result _ _ _ (by omega)]
    simp only [Answer.results]
    rw [resultWords_getElem, dif_neg hout]

/-- The completion of an answer write frees the slot and raises ANSWERED (R129). -/
theorem exec_answerWriteComplete_answers {m : State} {n : SlotId} {g : Granted}
    (hg : (m.client requestClient).granted.head? = some g) (hp : g.burst.purpose = .answerWrite n) :
    ∃ t, exec .answerWriteComplete m = .next t ∧ t.req.inFlight[n] = none
      ∧ t.notice.counts[(0 : Fin 6)] = m.notice.counts[(0 : Fin 6)] + 1 ∧ t.notice.pending[0] = true := by
  rw [exec_answerWriteComplete_eq]
  refine ⟨_, by simp only [execAnswerWriteComplete, State.oldest, hg, hp]; rfl, ?_, ?_, ?_⟩
  · simp
  · simp [State.raise_notice, NoticeKind.index]
  · simp [State.raise_notice, NoticeKind.bit, NoticeKind.index]

/-- Settles O30: a NOP is answered at taking, and what the answer write holds is read field by field. -/
theorem nopEchoesArgs : Obligations.NopEchoesArgs := by
  intro n r m
  refine ⟨fun ht hk => ?_, fun g hg hp => exec_answerWriteComplete_answers hg hp⟩
  obtain ⟨hlen, hstate, hcode, hargs, hzero, htime⟩ := nop_answerBytes r m.now
  obtain ⟨u, bs, htake, hu, hbs⟩ := State.take_answered (ans := .done r.args.toList)
    (decision := fun n r m => m.report n (.done r.args.toList)) ht hk rfl
  obtain ⟨hfly, hqueue, hexact⟩ := State.answeredAtTaking_requestWork (ans := .done r.args.toList) hu hbs
  exact ⟨_, by rw [exec_nop_eq, execNop, htake], by simp [hu], hqueue, hlen, hstate, hcode, hargs, hzero, htime,
    fun _ => ⟨hfly, hqueue, hexact⟩, m.requestWork_otherClientsSame _ _, m.requestWork_frame _ _⟩

end Sys2Proof.Machine

/-! # DIRBASE (R153)

A DIRBASE write is decided by the device state alone. A write that raises run in HALTED moves the device to LOADING,
where DIRBASE is no longer taken: so the order of the two writes settles which address the load reads. -/

namespace Sys2Proof.Machine

/-! ## What is stored -/

/-- The low 12 bits of the mask are clear, so those of what is stored are. -/
theorem dirbaseOf_aligned (w : Word) : (dirbaseOf w).toNat % 4096 = 0 := by
  have hmod : (w.toNat &&& 0x3FFFF000) % 2 ^ 12 = w.toNat % 2 ^ 12 &&& 0x3FFFF000 % 2 ^ 12 := Nat.and_mod_two_pow
  simpa [dirbaseOf] using hmod

/-- What is stored is at most the mask. -/
theorem dirbaseOf_lt (w : Word) : (dirbaseOf w).toNat < 0x40000000 :=
  calc (dirbaseOf w).toNat = w.toNat &&& 0x3FFFF000 := BitVec.toNat_and ..
    _ ≤ 0x3FFFF000 := Nat.and_le_right
    _ < 0x40000000 := by decide

/-! ## The writes of DIRBASE and CONTROL -/

section
variable (m : State)

theorem State.writeDirbase_taken (w : Word) (h : m.ctl.device = .halted ∨ m.ctl.device = .faulted) :
    m.writeDirbase w = { m with ctl := { m.ctl with dirbase := dirbaseOf w } } := by
  rcases h with h | h <;> simp [State.writeDirbase, State.modCtl, h]

theorem State.writeDirbase_ignored (w : Word)
    (h : m.ctl.device = .loading ∨ m.ctl.device = .running ∨ m.ctl.device = .stopping) : m.writeDirbase w = m := by
  rcases h with h | h | h <;> simp only [State.writeDirbase, h]

/-- Raising run in HALTED begins a load, held for the window bursts before it (R142, R179). -/
theorem State.setRun_raised_halted (hd : m.ctl.device = .halted) (hr : m.ctl.run = false) :
    m.setRun true = { m with
      ctl := { m.ctl with device := .loading, faultCause := .none, run := true, load := .toIssue }
      ep := { m.ep with windowAhead := (m.client .window).queue.length } } := by
  simp [State.setRun, State.enterLoading, State.modCtl, State.client, Arbiter.client, hd, hr]

theorem exec_dirbaseWrite_eq (w : Word) : exec (.dirbaseWrite w) m = .next (m.writeDirbase w) := rfl

theorem exec_run_eq {r : Word} (h : r.getLsbD 1 = false) : exec (.run r) m = .next (m.setRun (r.getLsbD 0)) :=
  congrArg Host.Outcome.next (if_neg (Bool.eq_false_iff.mp h) : m.writeControl r = m.setRun (r.getLsbD 0))

theorem exec_funcReset_eq {r : Word} (h : r.getLsbD 1 = true) : exec (.funcReset r) m = .next m.functionReset :=
  congrArg Host.Outcome.next (if_pos h : m.writeControl r = m.functionReset)

@[simp] theorem State.functionReset_dirbase : m.functionReset.ctl.dirbase = 0 := rfl

/-! ## The two orders of a DIRBASE write and a write that raises run -/

variable {m} {r : Word}

/-- A write that raises run in HALTED leads to LOADING and leaves DIRBASE. -/
theorem exec_run_raised_halted (h1 : r.getLsbD 1 = false) (h0 : r.getLsbD 0 = true) (hd : m.ctl.device = .halted)
    (hr : m.ctl.run = false) :
    ∃ t, exec (.run r) m = .next t ∧ t.ctl.device = .loading ∧ t.ctl.dirbase = m.ctl.dirbase := by
  rw [exec_run_eq m h1, h0, State.setRun_raised_halted m hd hr]
  exact ⟨_, rfl, rfl, rfl⟩

/-- The DIRBASE write first: the load begins with the address it stored. -/
theorem exec_dirbaseWrite_run (w : Word) (h1 : r.getLsbD 1 = false) (h0 : r.getLsbD 0 = true)
    (hd : m.ctl.device = .halted) (hr : m.ctl.run = false) :
    ∃ t, exec (.dirbaseWrite w) m = .next t
      ∧ ∃ u, exec (.run r) t = .next u ∧ u.ctl.device = .loading ∧ u.ctl.dirbase = dirbaseOf w := by
  refine ⟨_, by rw [exec_dirbaseWrite_eq, State.writeDirbase_taken m w (.inl hd)], ?_⟩
  exact exec_run_raised_halted h1 h0 hd hr

/-- The write that raises run first: the DIRBASE write comes in LOADING and is ignored. -/
theorem exec_run_dirbaseWrite (w : Word) (h1 : r.getLsbD 1 = false) (h0 : r.getLsbD 0 = true)
    (hd : m.ctl.device = .halted) (hr : m.ctl.run = false) :
    ∃ t, exec (.run r) m = .next t ∧ t.ctl.device = .loading ∧ t.ctl.dirbase = m.ctl.dirbase
      ∧ exec (.dirbaseWrite w) t = .next t := by
  obtain ⟨t, hrun, hload, hbase⟩ := exec_run_raised_halted h1 h0 hd hr
  exact ⟨t, hrun, hload, hbase, by rw [exec_dirbaseWrite_eq, State.writeDirbase_ignored t w (.inl hload)]⟩

/-- The directory read is issued at the address that DIRBASE holds (R138, R179). -/
theorem exec_directoryReadIssue_queue (hl : m.ctl.load = .toIssue) (hw : m.ep.windowAhead = 0) :
    ∃ t, exec .directoryReadIssue m = .next t
      ∧ (t.client runControlClient).queue
        = (m.client runControlClient).queue ++ [⟨.directoryRead, m.ctl.dirbase.toNat, .read 64⟩] :=
  ⟨_, if_pos ⟨hl, hw⟩, by rw [State.client_issue_self, State.client_modCtl]⟩

end

/-- Settles O6: where a DIRBASE write is taken and what it stores, by device state and by its order with a raise of run. -/
theorem dirbaseRegister : Obligations.DirbaseRegister := by
  intro w r m
  refine ⟨fun hd => ?taken, fun hd => ?ignored, dirbaseOf_aligned w, dirbaseOf_lt w, rfl, ⟨_, rfl, rfl⟩,
    fun h1 => ?funcReset, ⟨_, rfl, m.functionReset_dirbase⟩, fun h1 h0 hd hr => ?orders,
    exec_directoryReadIssue_queue⟩
  case taken => rw [exec_dirbaseWrite_eq, State.writeDirbase_taken m w hd, dirbaseOf]
  case ignored => rw [exec_dirbaseWrite_eq, State.writeDirbase_ignored m w hd]
  case funcReset => exact ⟨_, exec_funcReset_eq m h1, m.functionReset_dirbase⟩
  case orders => exact ⟨exec_dirbaseWrite_run w h1 h0 hd hr, exec_run_dirbaseWrite w h1 h0 hd hr⟩

end Sys2Proof.Machine
